-- ==== Sys2Proof/Word.lean ====
section
/-! DEFINITION. The widths of the block's data (00_scope.md R9, R10). Bits are numbered from 0, the least
significant (R10); all values are unsigned. -/

namespace Sys2Proof

/-- Bus data and every host-visible register: 32 bits (R9, R24, R63). -/
abbrev Word := BitVec 32

/-- A frame field, a mailbox word, an LED timing register: 16 bits (R9, R28). -/
abbrev Half := BitVec 16

/-- A received byte, SCNT, DUR: 8 bits (R9, R47). -/
abbrev Byte := BitVec 8

/-- A pixel or a colour, 0xRRGGBB: 24 bits used (R9, R46, R164). -/
abbrev Rgb := BitVec 24

/-- A byte offset in the 4 KiB register window (R61). -/
abbrev Offset := BitVec 12

/-- An operation descriptor (R81). -/
abbrev Desc := BitVec 16

end Sys2Proof
end

