-- ==== Sys2Proof/Config.lean ====
section
/-! DEFINITION. What is fixed for one block: the parameters of 00_scope.md R7 and R8, which a model takes as
arguments, and the free values of the spec's one unspecified item (93_implementation_defined.md U1). The model
carries the parameters in the state, unchanged by every operation, so that a claim about every state is a claim
about every parameter value. -/

namespace Sys2Proof

/-- STALE_CMP (R8, D8): whether STALE is SCNT ≥ 30 or SCNT > 30. -/
inductive StaleCmp where
  | ge
  | gt
deriving DecidableEq, Repr

/-- The three environmental alarms that ENV_ORDER ranks (R8, D12). -/
inductive EnvAlarm where
  | pm
  | temp
  | humi
deriving DecidableEq, Repr

/-- ENV_ORDER (R8, D12): the six rankings of the environmental alarms, highest first. -/
inductive EnvOrder where
  | pmTempHumi
  | pmHumiTemp
  | tempPmHumi
  | tempHumiPm
  | humiPmTemp
  | humiTempPm
deriving DecidableEq, Repr

/-- COLOR_TABLE (R8, R164). -/
structure ColorTable where
  red    : Rgb
  purple : Rgb
  orange : Rgb
  yellow : Rgb
  blue   : Rgb
  green  : Rgb
  white  : Rgb
  off    : Rgb
deriving DecidableEq, Repr

/-- R164: the numeric values, which the spec takes from general knowledge (G1). -/
def ColorTable.cssNames : ColorTable where
  red    := 0xFF0000#24
  purple := 0x800080#24
  orange := 0xFFA500#24
  yellow := 0xFFFF00#24
  blue   := 0x0000FF#24
  green  := 0x00FF00#24
  white  := 0xFFFFFF#24
  off    := 0x000000#24

/-- The parameters of one block (R7, R8). -/
structure Config where
  /-- N_PIX (R7): an integer 1..256. -/
  nPix : Nat
  /-- F_CLK in Hz (R7): it only converts cycles to time. R7 gives it no type and no range; that it is a natural number,
  0 included, is the model's choice (log entry 3). -/
  fClk : Nat
  /-- SFAULT_ESCALATES (R8, D10). -/
  sfaultEscalates : Bool
  /-- SOUND_CMP_PRE (R8, D14). -/
  soundCmpPre : Bool
  /-- STALE_CMP (R8, D8). -/
  staleCmp : StaleCmp
  /-- ENV_ORDER (R8, D12). -/
  envOrder : EnvOrder
  /-- COLOR_TABLE (R8, R164). -/
  colors : ColorTable
  /-- Whether a read of a pixel slot past the strip signals X7: R213 says it signals nothing, R251 lists R213 under X7,
  and 90_conflicts.md does not rule. A parameter of the model's own, so that a claim about every block holds on either
  reading (log entry 10). -/
  pixReadSignals : Bool
deriving DecidableEq, Repr

namespace Config

/-- R7: N_PIX is an integer 1..256. -/
abbrev wf (c : Config) : Prop := 1 ≤ c.nPix ∧ c.nPix ≤ 256

/-- R8: the alternative-reading parameters have the values the rules are written at. The colour table is not
among them: no rule but R164 depends on its values. -/
abbrev atDefaultReadings (c : Config) : Prop :=
  c.sfaultEscalates = false ∧ c.soundCmpPre = true ∧ c.staleCmp = .ge ∧ c.envOrder = .pmTempHumi

/-- DESIGN CHOICE (log entries 2, 3): the block that State.reset describes has N_PIX = 8, the value the test
vectors use unless they say otherwise, and F_CLK = 16 MHz, on which no rule depends. Unsafe for a claim about
State.reset alone; claims are stated for every Config. The readings are R8's, and a read past the strip signals
nothing, as R213 says (log entry 10). -/
def reference : Config where
  nPix := 8
  fClk := 16000000
  sfaultEscalates := false
  soundCmpPre := true
  staleCmp := .ge
  envOrder := .pmTempHumi
  colors := ColorTable.cssNames
  pixReadSignals := false

end Config

/-- A FREE VALUE (R46, R271, R274, U1; log entry 6): the n-th 24-bit value drawn for a pixel word whose contents
the spec leaves unspecified. No body: nothing in the model says what it is, so a claim holds for every draw. -/
opaque Config.freePixel : Nat → Rgb

end Sys2Proof
end

