-- ==== Sys2Proof/Syntax.lean ====
section
/-! DEFINITION. The operations of the block, one constructor for each row of spec/opcode_table.json, and the form
in which the environment presents one (30_encoding.md R81-R85). A write carries the write data v; RX carries the
received byte d; a row with don't-care bits keeps them in a field (x, i, cls, z0, off), so that no bit of a
descriptor is dropped. -/

namespace Sys2Proof

/-- One operation as the ports present it (R14, R23, R81): the descriptor, and the two operand lanes of the ports,
bus_wdata[31:0] and rx_data[7:0]. A lane carries some value whether or not the operation uses it; the decoder reads
wdata for a write and rxData for RX only (R86, R89; log entry 15). -/
structure Op where
  desc   : Desc
  wdata  : Word := 0
  rxData : Byte := 0
deriving DecidableEq, Repr

/-- The operations of the opcode table. -/
inductive Instr where
  /-- 0000000000000000: RD ID (R231). -/
  | rdId
  /-- 0000000000000100: RD DEC_STAT (R126). -/
  | rdDecStat
  /-- 0000000000001000: RD MB_STAT (R110). -/
  | rdMbStat
  /-- 0000000000010000: RD SNAP0 (R111). -/
  | rdSnap0
  /-- 0000000000010100: RD SNAP1 (R112). -/
  | rdSnap1
  /-- 0000000000011000: RD SNAP2 (R113). -/
  | rdSnap2
  /-- 0000000000011100: RD SNAP3 (R114). -/
  | rdSnap3
  /-- 0000000000100000: RD SNAP4 (R115). -/
  | rdSnap4
  /-- 0000000000100100: RD SNAP5 (R116). -/
  | rdSnap5
  /-- 0000000000101000: RD SNAP6 (R117). -/
  | rdSnap6
  /-- 0000000000101100: RD SNAP7 (R118). -/
  | rdSnap7
  /-- 0000000000110000: RD SNAP8 (R119). -/
  | rdSnap8
  /-- 0000000000110100: RD SNAP9 (R120). -/
  | rdSnap9
  /-- 0000000000111000: RD SNAP10 (R121). -/
  | rdSnap10
  /-- 0000000000111100: RD SNAP11 (R122). -/
  | rdSnap11
  /-- 0000000001000000: RD SNAP12 (R123). -/
  | rdSnap12
  /-- 0000000001000100: RD SNAP13 (R124). -/
  | rdSnap13
  /-- 0000000001001000: RD SNAP14 (R125). -/
  | rdSnap14
  /-- 0000000001001100: RD STALE (R127). -/
  | rdStale
  /-- 0000000001010000: RD ARB_IN (R142). -/
  | rdArbIn
  /-- 0000000001010100: RD ARB_CFG (R144). -/
  | rdArbCfg
  /-- 0000000001011000: RD ARB_STEP (R157). -/
  | rdArbStep
  /-- 0000000001011100: RD ARB_STAT (R158). -/
  | rdArbStat
  /-- 0000000001100000: RD LIGHT (R159). -/
  | rdLight
  /-- 0000000001100100: RD LIGHT_RGB (R160). -/
  | rdLightRgb
  /-- 0000000001101000: RD LIGHT_POS (R161). -/
  | rdLightPos
  /-- 0000000001101100: RD TICK (R163). -/
  | rdTick
  /-- 0000000001110000: RD LED_CTRL (R199). -/
  | rdLedCtrl
  /-- 0000000001110100: RD LED_STAT (R200). -/
  | rdLedStat
  /-- 0000000001111000: RD LED_T0H (R205). -/
  | rdLedT0h
  /-- 0000000001111100: RD LED_T1H (R207). -/
  | rdLedT1h
  /-- 0000000010000000: RD LED_TBIT (R209). -/
  | rdLedTbit
  /-- 0000000010000100: RD LED_TRST (R211). -/
  | rdLedTrst
  /-- 0000000010001000: RD IRQ_PEND (R232). -/
  | rdIrqPend
  /-- 0000000010001100: RD IRQ_EN (R234). -/
  | rdIrqEn
  /-- 0100000000000000: WR ID (R236). -/
  | wrId (v : Word)
  /-- 0100000000000100: WR DEC_STAT (R236). -/
  | wrDecStat (v : Word)
  /-- 0100000000001000: WR MB_STAT (R236). -/
  | wrMbStat (v : Word)
  /-- 0100000000010000: WR SNAP0 (R236). -/
  | wrSnap0 (v : Word)
  /-- 0100000000010100: WR SNAP1 (R236). -/
  | wrSnap1 (v : Word)
  /-- 0100000000011000: WR SNAP2 (R236). -/
  | wrSnap2 (v : Word)
  /-- 0100000000011100: WR SNAP3 (R236). -/
  | wrSnap3 (v : Word)
  /-- 0100000000100000: WR SNAP4 (R236). -/
  | wrSnap4 (v : Word)
  /-- 0100000000100100: WR SNAP5 (R236). -/
  | wrSnap5 (v : Word)
  /-- 0100000000101000: WR SNAP6 (R236). -/
  | wrSnap6 (v : Word)
  /-- 0100000000101100: WR SNAP7 (R236). -/
  | wrSnap7 (v : Word)
  /-- 0100000000110000: WR SNAP8 (R236). -/
  | wrSnap8 (v : Word)
  /-- 0100000000110100: WR SNAP9 (R236). -/
  | wrSnap9 (v : Word)
  /-- 0100000000111000: WR SNAP10 (R236). -/
  | wrSnap10 (v : Word)
  /-- 0100000000111100: WR SNAP11 (R236). -/
  | wrSnap11 (v : Word)
  /-- 0100000001000000: WR SNAP12 (R236). -/
  | wrSnap12 (v : Word)
  /-- 0100000001000100: WR SNAP13 (R236). -/
  | wrSnap13 (v : Word)
  /-- 0100000001001000: WR SNAP14 (R236). -/
  | wrSnap14 (v : Word)
  /-- 0100000001001100: WR STALE (R236). -/
  | wrStale (v : Word)
  /-- 0100000001010000: WR ARB_IN (R141). -/
  | wrArbIn (v : Word)
  /-- 0100000001010100: WR ARB_CFG (R143). -/
  | wrArbCfg (v : Word)
  /-- 0100000001011000: STEP (WR ARB_STEP) (R145). -/
  | wrArbStep (v : Word)
  /-- 0100000001011100: WR ARB_STAT (R236). -/
  | wrArbStat (v : Word)
  /-- 0100000001100000: WR LIGHT (R236). -/
  | wrLight (v : Word)
  /-- 0100000001100100: WR LIGHT_RGB (R236). -/
  | wrLightRgb (v : Word)
  /-- 0100000001101000: WR LIGHT_POS (R236). -/
  | wrLightPos (v : Word)
  /-- 0100000001101100: WR TICK (R236). -/
  | wrTick (v : Word)
  /-- 0100000001110000: WR LED_CTRL (R195). -/
  | wrLedCtrl (v : Word)
  /-- 0100000001110100: WR LED_STAT (R201). -/
  | wrLedStat (v : Word)
  /-- 0100000001111000: WR LED_T0H (R204). -/
  | wrLedT0h (v : Word)
  /-- 0100000001111100: WR LED_T1H (R206). -/
  | wrLedT1h (v : Word)
  /-- 0100000010000000: WR LED_TBIT (R208). -/
  | wrLedTbit (v : Word)
  /-- 0100000010000100: WR LED_TRST (R210). -/
  | wrLedTrst (v : Word)
  /-- 0100000010001000: WR IRQ_PEND (R233). -/
  | wrIrqPend (v : Word)
  /-- 0100000010001100: WR IRQ_EN (R235). -/
  | wrIrqEn (v : Word)
  /-- 000001iiiiiiii00: RD PIX[i] (R213). -/
  | rdPix (i : BitVec 8)
  /-- 010001iiiiiiii00: WR PIX[i] (R212). -/
  | wrPix (i : BitVec 8) (v : Word)
  /-- 0000000000001100: RD reserved 0x00C-0x00C (R237). -/
  | rdReserved00C
  /-- 0100000000001100: WR reserved 0x00C-0x00C (R238). -/
  | wrReserved00C (v : Word)
  /-- 000000001001xx00: RD reserved 0x090-0x09C (R237). -/
  | rdReserved090 (x : BitVec 2)
  /-- 010000001001xx00: WR reserved 0x090-0x09C (R238). -/
  | wrReserved090 (x : BitVec 2) (v : Word)
  /-- 00000000101xxx00: RD reserved 0x0A0-0x0BC (R237). -/
  | rdReserved0A0 (x : BitVec 3)
  /-- 01000000101xxx00: WR reserved 0x0A0-0x0BC (R238). -/
  | wrReserved0A0 (x : BitVec 3) (v : Word)
  /-- 0000000011xxxx00: RD reserved 0x0C0-0x0FC (R237). -/
  | rdReserved0C0 (x : BitVec 4)
  /-- 0100000011xxxx00: WR reserved 0x0C0-0x0FC (R238). -/
  | wrReserved0C0 (x : BitVec 4) (v : Word)
  /-- 00000001xxxxxx00: RD reserved 0x100-0x1FC (R237). -/
  | rdReserved100 (x : BitVec 6)
  /-- 01000001xxxxxx00: WR reserved 0x100-0x1FC (R238). -/
  | wrReserved100 (x : BitVec 6) (v : Word)
  /-- 0000001xxxxxxx00: RD reserved 0x200-0x3FC (R237). -/
  | rdReserved200 (x : BitVec 7)
  /-- 0100001xxxxxxx00: WR reserved 0x200-0x3FC (R238). -/
  | wrReserved200 (x : BitVec 7) (v : Word)
  /-- 00001xxxxxxxxx00: RD reserved 0x800-0xFFC (R237). -/
  | rdReserved800 (x : BitVec 9)
  /-- 01001xxxxxxxxx00: WR reserved 0x800-0xFFC (R238). -/
  | wrReserved800 (x : BitVec 9) (v : Word)
  /-- 0000xxxxxxxxxxx1: RD misaligned (OFF[0]=1) (R64). -/
  | rdMisalignedOdd (x : BitVec 11)
  /-- 0000xxxxxxxxxx10: RD misaligned (OFF[1:0]=10) (R64). -/
  | rdMisalignedHalf (x : BitVec 10)
  /-- 0100xxxxxxxxxxx1: WR misaligned (OFF[0]=1) (R64). -/
  | wrMisalignedOdd (x : BitVec 11) (v : Word)
  /-- 0100xxxxxxxxxx10: WR misaligned (OFF[1:0]=10) (R64). -/
  | wrMisalignedHalf (x : BitVec 10) (v : Word)
  /-- 1000000000000000: RX (R102). -/
  | rx (d : Byte)
  /-- 1000000000000001: TICK (R162). -/
  | tick
  /-- 1000000000000010: CLK (R202). -/
  | clk
  /-- 1000000000000011: RESET (R274). -/
  | reset
  /-- 10000000000001xx: refused EVT 0x004-0x007 (R82). -/
  | refusedEvt004 (x : BitVec 2)
  /-- 1000000000001xxx: refused EVT 0x008-0x00F (R82). -/
  | refusedEvt008 (x : BitVec 3)
  /-- 100000000001xxxx: refused EVT 0x010-0x01F (R82). -/
  | refusedEvt010 (x : BitVec 4)
  /-- 10000000001xxxxx: refused EVT 0x020-0x03F (R82). -/
  | refusedEvt020 (x : BitVec 5)
  /-- 1000000001xxxxxx: refused EVT 0x040-0x07F (R82). -/
  | refusedEvt040 (x : BitVec 6)
  /-- 100000001xxxxxxx: refused EVT 0x080-0x0FF (R82). -/
  | refusedEvt080 (x : BitVec 7)
  /-- 10000001xxxxxxxx: refused EVT 0x100-0x1FF (R82). -/
  | refusedEvt100 (x : BitVec 8)
  /-- 1000001xxxxxxxxx: refused EVT 0x200-0x3FF (R82). -/
  | refusedEvt200 (x : BitVec 9)
  /-- 100001xxxxxxxxxx: refused EVT 0x400-0x7FF (R82). -/
  | refusedEvt400 (x : BitVec 10)
  /-- 10001xxxxxxxxxxx: refused EVT 0x800-0xFFF (R82). -/
  | refusedEvt800 (x : BitVec 11)
  /-- 11xxxxxxxxxxxxxx: refused CLS=11 (R82). -/
  | refusedCls11 (x : BitVec 14)
  /-- xx01xxxxxxxxxxxx: refused Z=01 (R82). -/
  | refusedZ01 (cls : BitVec 2) (off : BitVec 12)
  /-- xx1xxxxxxxxxxxxx: refused Z=1x (R82). -/
  | refusedZ1x (cls : BitVec 2) (z0 : BitVec 1) (off : BitVec 12)
deriving DecidableEq, Repr

end Sys2Proof
end

