-- ==== Sys2Proof/Machine/State.lean ====
section
/-! DEFINITION. The state of the block (10_state.md), and the state after reset (R52). Every field is plain data.
The spec's own state comes first, in the order of R52; the last four fields are the model's own: the operations the
environment will present, the output and the conditions of the last operation, and the count of free values drawn. -/

namespace Sys2Proof.Machine

/-- DSTATE (R47): the decoder's three states. Code 3 of DEC_STAT is never read (R26), so it has no constructor. -/
inductive DState where
  | awaitSync1
  | awaitSync2
  | collecting
deriving DecidableEq, Repr

/-- The conditions X2 to X9 of 60_exceptions.md R251, which operations signal (R13). None stops the block (R252).
X1 DESC_RESERVED is the model's refusal, `Refusal.descReserved`. -/
inductive Condition where
  /-- X2 SYNC_LOST, raised by RX (R104): nothing recorded. -/
  | syncLost
  /-- X3 CHECKSUM_FAIL, raised by RX (R108): nothing recorded. -/
  | checksumFail
  /-- X4 REFRESH_BUSY, raised by WR LED_CTRL (R196): recorded in LED_STAT.RDROP. -/
  | refreshBusy
  /-- X5 LED_CFG_INVALID, raised by WR LED_CTRL (R196): recorded in LED_STAT.CFGERR. -/
  | ledCfgInvalid
  /-- X6 WRITE_WHILE_BUSY, raised by a timing or pixel write (R204-R212): recorded in LED_STAT.WDROP. -/
  | writeWhileBusy
  /-- X7 IGNORED_ACCESS, raised by a misaligned, reserved or read-only access (R64, R236-R238): nothing recorded. -/
  | ignoredAccess
  /-- X8 SENSOR_STALE, raised by STEP (R128): recorded in STALE, and IRQ_PEND.STALE on the rise (R155). -/
  | sensorStale
  /-- X9 RECORD_OVERWRITE, raised by RX (R107): recorded in MB_STAT.OVR. -/
  | recordOverwrite
deriving DecidableEq, Repr

/-- What an operation returns (R14, R81): the read data of a bus read, the `led_dout` level of a CLK, or nothing. -/
inductive Output where
  | none
  | readData (v : Word)
  | lineLevel (b : Bool)
deriving DecidableEq, Repr

/-- The block never stops with a fault: "No condition changes the order of operations, stops the block, or saves
state" (R252), and no item of the spec hangs or traps (93_implementation_defined.md). So there is no fault. -/
inductive Fault where
deriving DecidableEq, Repr

/-- Why the model refuses an operation. -/
inductive Refusal where
  /-- Raised by an arm of exec that has no meaning yet. Safe: nothing is claimed of such an operation. -/
  | notModelled (mnemonic : String)
  /-- X1 DESC_RESERVED (R82, R83, R251): a descriptor with CLS = 11, Z ≠ 00 or a reserved event id, raised by the
  `refused` rows of the table. The block has no such operation and no state changes. Safe: the spec itself refuses. -/
  | descReserved (desc : Desc)
deriving DecidableEq, Repr

/-- The block's one memory, the pixel RAM PIX[0..N_PIX-1] (R46, R61): one 24-bit word for each pixel. -/
abbrev Memory := List Rgb

/-- The canonical form of the pixel RAM: exactly N_PIX words (R46). -/
abbrev Memory.wf (nPix : Nat) (m : Memory) : Prop := m.length = nPix

/-- The whole state of the machine. -/
structure State where
  /-- The block's parameters (R7, R8), changed by no operation. -/
  cfg : Config
  /-- DSTATE (R47). -/
  dstate : DState
  /-- DCNT (R47): the count of bytes buffered, 0..31. -/
  dcnt : Fin 32
  /-- DBUF (R47): the frame being collected. -/
  dbuf : Vector Byte 32
  /-- MB (R48): the last published record. -/
  mb : Vector Half 15
  /-- MB_STAT.FRESH (R27, R48). -/
  fresh : Bool
  /-- MB_STAT.OVR (R27, R48). -/
  ovr : Bool
  /-- SNAP0-SNAP14 (R28). -/
  snap : Vector Half 15
  /-- STALE.SCNT (R29). -/
  scnt : Byte
  /-- STALE.STALE (R29). -/
  stale : Bool
  /-- STALE.RSS (R29, R49). -/
  rss : Bool
  /-- ARB_IN (R30). -/
  arbIn : Word
  /-- ARB_CFG (R31). -/
  arbCfg : Word
  /-- ARB_STAT (R33). -/
  arbStat : Word
  /-- LIGHT (R34). -/
  light : Word
  /-- LIGHT_RGB (R35). -/
  lightRgb : Word
  /-- LIGHT_POS (R36). -/
  lightPos : Word
  /-- TICK (R37). -/
  tick : Word
  /-- LED_CTRL.PIXSRC (R38). -/
  pixsrc : Bool
  /-- LED_STAT.CFGERR (R39). -/
  cfgerr : Bool
  /-- LED_STAT.WDROP (R39). -/
  wdrop : Bool
  /-- LED_STAT.RDROP (R39). -/
  rdrop : Bool
  /-- LED_T0H (R40). -/
  ledT0h : Half
  /-- LED_T1H (R41). -/
  ledT1h : Half
  /-- LED_TBIT (R42). -/
  ledTbit : Half
  /-- LED_TRST (R43). -/
  ledTrst : Half
  /-- IRQ_PEND (R44): bit 0 REC, bit 1 LDONE, bit 2 STALE. -/
  irqPend : BitVec 3
  /-- IRQ_EN (R45). -/
  irqEn : BitVec 3
  /-- LBUSY (R50), shown as LED_STAT.BUSY. -/
  lbusy : Bool
  /-- LT (R50): the cycles elapsed in the current burst. -/
  lt : Word
  /-- LBITS (R50): the bits of the current burst. -/
  lbits : List Bool
  /-- LT0H (R50). -/
  lt0h : Half
  /-- LT1H (R50). -/
  lt1h : Half
  /-- LTBIT (R50). -/
  ltbit : Half
  /-- LTRST (R50). -/
  ltrst : Half
  /-- PIX (R46). -/
  pix : Memory
  /-- The model's own: how many free values have been drawn (R274; log entry 6). -/
  draws : Nat
  /-- The model's own: the operations the environment will present, first first (R22, R71; log entry 1). -/
  pending : List Op
  /-- The model's own: what the last operation returned (R14; log entry 7). -/
  out : Output
  /-- The model's own: the conditions the last operation signalled, in order (R13; log entry 8). -/
  conds : List Condition
deriving DecidableEq, Repr

/-- R46, R271, R274: the contents of the pixel RAM after a reset: one free value for each word, the k-th value of
the model's supply and those after it. -/
def drawPixels (k n : Nat) : Memory :=
  (List.range n).map fun i => Config.freePixel (k + i)

/-- R52, R271: every state element at its reset value, for a block with parameters c, when k free values have been
drawn before. Nothing is pending, and no operation has returned anything yet. -/
def State.resetOf (c : Config) (k : Nat) : State where
  cfg := c
  dstate := .awaitSync1
  dcnt := 0
  dbuf := Vector.replicate 32 0
  mb := Vector.replicate 15 0
  fresh := false
  ovr := false
  snap := Vector.replicate 15 0
  scnt := 0
  stale := false
  rss := false
  arbIn := 0
  arbCfg := 0
  arbStat := 0
  light := 0
  lightRgb := 0
  lightPos := 0
  tick := 0
  pixsrc := false
  cfgerr := false
  wdrop := false
  rdrop := false
  ledT0h := 6
  ledT1h := 13
  ledTbit := 20
  ledTrst := 960
  irqPend := 0
  irqEn := 0
  lbusy := false
  lt := 0
  lbits := []
  lt0h := 0
  lt1h := 0
  ltbit := 0
  ltrst := 0
  pix := drawPixels k c.nPix
  draws := k + c.nPix
  pending := []
  out := .none
  conds := []

/-- The machine right after reset (R52), for the reference parameters (log entries 2, 3). -/
def State.reset : State := State.resetOf Config.reference 0

end Sys2Proof.Machine
end

