-- ==== Sys2Proof/Machine/Operands.lean ====
section
/-! DEFINITION. Operand forms: the fields each write takes from the write data (30_encoding.md R86), the words each
read assembles (R87), the fields of the registers that are held whole, and the byte order of frames and LED bits
(20_memory.md R66, R67). -/

namespace Sys2Proof.Machine

/-! ### Read data (R87) -/

/-- R25, R231: the identification constant. -/
def idWord : Word := 0x56330001#32

/-- R26: code(DSTATE). -/
def DState.code : DState → BitVec 2
  | .awaitSync1 => 0
  | .awaitSync2 => 1
  | .collecting => 2

/-- R126: the word DEC_STAT reads. -/
def decStatWord (st : DState) (n : Fin 32) : Word :=
  0#19 ++ BitVec.ofFin (w := 5) n ++ 0#6 ++ st.code

/-- R110: the word MB_STAT reads. -/
def mbStatWord (ovr fresh : Bool) : Word :=
  0#30 ++ BitVec.ofBool ovr ++ BitVec.ofBool fresh

/-- R127: the word STALE reads. -/
def staleWord (rss stale : Bool) (scnt : Byte) : Word :=
  0#22 ++ BitVec.ofBool rss ++ BitVec.ofBool stale ++ scnt

/-- R199: the word LED_CTRL reads; REFRESH reads 0. -/
def ledCtrlWord (pixsrc : Bool) : Word :=
  0#30 ++ BitVec.ofBool pixsrc ++ 0#1

/-- R200: the word LED_STAT reads. -/
def ledStatWord (rdrop wdrop cfgerr busy : Bool) : Word :=
  0#28 ++ BitVec.ofBool rdrop ++ BitVec.ofBool wdrop ++ BitVec.ofBool cfgerr ++ BitVec.ofBool busy

/-- R232, R234: the word IRQ_PEND or IRQ_EN reads. -/
def irqWord (b : BitVec 3) : Word := 0#29 ++ b

/-- R87: a 16-bit value zero-extended into its word (SNAP, LED timing). -/
def halfWord (h : Half) : Word := h.setWidth 32

/-- R213: a pixel word as it is read. -/
def pixelWord (p : Rgb) : Word := p.setWidth 32

/-! ### Write data (R86) -/

/-- R30, R141: the writable bits of ARB_IN. -/
def arbInMask : Word := 0x0000071F#32

/-- R31, R143: the writable bits of ARB_CFG. -/
def arbCfgMask : Word := 0x0000000F#32

/-- R86: the field of a timing write, bits [15:0]. -/
def writeHalf (v : Word) : Half := v.extractLsb' 0 16

/-- R86: the field of a pixel write, bits [23:0]. -/
def writePixel (v : Word) : Rgb := v.extractLsb' 0 24

/-- R86: the field of a write to IRQ_PEND or IRQ_EN, bits [2:0]. -/
def writeIrq (v : Word) : BitVec 3 := v.extractLsb' 0 3

/-! ### Fields of the registers held whole -/

/-- ARB_IN.FIRE (R30). -/
def arbFire (r : Word) : Bool := r.getLsbD 0
/-- ARB_IN.INTR (R30). -/
def arbIntr (r : Word) : Bool := r.getLsbD 1
/-- ARB_IN.PM (R30). -/
def arbPm (r : Word) : Bool := r.getLsbD 2
/-- ARB_IN.TEMP (R30). -/
def arbTemp (r : Word) : Bool := r.getLsbD 3
/-- ARB_IN.HUMI (R30). -/
def arbHumi (r : Word) : Bool := r.getLsbD 4
/-- ARB_IN.TFAULT (R30). -/
def arbTfault (r : Word) : Bool := r.getLsbD 8
/-- ARB_IN.PFAULT (R30). -/
def arbPfault (r : Word) : Bool := r.getLsbD 9
/-- ARB_IN.SFAULT (R30). -/
def arbSfault (r : Word) : Bool := r.getLsbD 10

/-- ARB_CFG.SILENT (R31). -/
def cfgSilent (r : Word) : Bool := r.getLsbD 0
/-- ARB_CFG.LOFF (R31). -/
def cfgLoff (r : Word) : Bool := r.getLsbD 1
/-- ARB_CFG.EMERG (R31). -/
def cfgEmerg (r : Word) : Bool := r.getLsbD 2
/-- ARB_CFG.EDIT (R31). -/
def cfgEdit (r : Word) : Bool := r.getLsbD 3

/-- ARB_STAT.STATUS (R33). -/
def statStatus (r : Word) : BitVec 2 := r.extractLsb' 0 2
/-- ARB_STAT.CAUSE (R33). -/
def statCause (r : Word) : BitVec 3 := r.extractLsb' 4 3
/-- ARB_STAT.SOUND (R33). -/
def statSound (r : Word) : Bool := r.getLsbD 8
/-- ARB_STAT.ALARM_ANY (R33). -/
def statAlarmAny (r : Word) : Bool := r.getLsbD 9
/-- ARB_STAT.FAULT_CODE (R33). -/
def statFaultCode (r : Word) : BitVec 2 := r.extractLsb' 12 2
/-- ARB_STAT.DUR (R33). -/
def statDur (r : Word) : Byte := r.extractLsb' 16 8

/-- LIGHT.KIND (R34). -/
def lightKind (r : Word) : BitVec 2 := r.extractLsb' 0 2
/-- LIGHT.LIT (R34). -/
def lightLit (r : Word) : Bool := r.getLsbD 4
/-- LIGHT.PERIOD (R34). -/
def lightPeriod (r : Word) : Byte := r.extractLsb' 8 8
/-- The colour in LIGHT_RGB (R35). -/
def lightRgbColour (r : Word) : Rgb := r.extractLsb' 0 24
/-- The pixel index in LIGHT_POS (R36). -/
def lightPosIndex (r : Word) : Byte := r.extractLsb' 0 8

/-- SystemStatus (R33). -/
inductive Status where
  | normal
  | fireAlert
  | intrusion
  | envWarning
deriving DecidableEq, Repr

/-- R33: the codes of STATUS. -/
def Status.code : Status → BitVec 2
  | .normal => 0
  | .fireAlert => 1
  | .intrusion => 2
  | .envWarning => 3

/-- CAUSE (R33); code 7 is never written, so it has no constructor. -/
inductive Cause where
  | none
  | fault
  | fire
  | intr
  | pm
  | temp
  | humi
deriving DecidableEq, Repr

/-- R33: the codes of CAUSE. -/
def Cause.code : Cause → BitVec 3
  | .none => 0
  | .fault => 1
  | .fire => 2
  | .intr => 3
  | .pm => 4
  | .temp => 5
  | .humi => 6

/-- LIGHT.KIND (R34). -/
inductive Kind where
  | off
  | solid
  | flash
  | moving
deriving DecidableEq, Repr

/-- R34, R156: the codes of KIND. -/
def Kind.code : Kind → BitVec 2
  | .off => 0
  | .solid => 1
  | .flash => 2
  | .moving => 3

/-- The KIND that a 2-bit code stands for (R34). -/
def kindOfCode (k : BitVec 2) : Kind :=
  if k == 0#2 then .off else if k == 1#2 then .solid else if k == 2#2 then .flash else .moving

/-- R156: the word a STEP commits to ARB_STAT. -/
def arbStatWord (dur : Byte) (fcode : BitVec 2) (any sound : Bool) (cause : Cause) (status : Status) : Word :=
  0#8 ++ dur ++ 0#2 ++ fcode ++ 0#2 ++ BitVec.ofBool any ++ BitVec.ofBool sound ++ 0#1 ++ cause.code ++ 0#2
    ++ status.code

/-- R156: the word a STEP commits to LIGHT. -/
def lightWord (period : Byte) (lit : Bool) (kind : Kind) : Word :=
  0#16 ++ period ++ 0#3 ++ BitVec.ofBool lit ++ 0#2 ++ kind.code

/-- R156: the word a STEP commits to LIGHT_RGB. -/
def lightRgbWord (rgb : Rgb) : Word := 0#8 ++ rgb

/-- R156: the word a STEP commits to LIGHT_POS. -/
def lightPosWord (pos : Byte) : Word := 0#24 ++ pos

/-! ### Byte order -/

/-- R66: a frame field, the byte at the lower frame offset first. -/
def bigEndian (hi lo : Byte) : Half := hi ++ lo

/-- R107: mailbox word k of a frame, its bytes 2+2k and 3+2k (R28). -/
def frameWord (b : Vector Byte 32) (k : Fin 15) : Half :=
  bigEndian (b[2 + 2 * k.val]'(by omega)) (b[3 + 2 * k.val]'(by omega))

/-- R107: the fifteen mailbox words of a frame. -/
def frameRecord (b : Vector Byte 32) : Vector Half 15 := Vector.ofFn (frameWord b)

/-- R106: the checksum a frame carries, big-endian in its last two bytes. -/
def frameChecksum (b : Vector Byte 32) : Half := bigEndian b[30] b[31]

/-- R67, R192: a byte's bits in the order they are sent, most significant first. -/
def byteBits (b : Byte) : List Bool :=
  [b.getLsbD 7, b.getLsbD 6, b.getLsbD 5, b.getLsbD 4, b.getLsbD 3, b.getLsbD 2, b.getLsbD 1, b.getLsbD 0]

/-- The red byte of 0xRRGGBB (R46). -/
def rgbRed (p : Rgb) : Byte := p.extractLsb' 16 8
/-- The green byte of 0xRRGGBB (R46). -/
def rgbGreen (p : Rgb) : Byte := p.extractLsb' 8 8
/-- The blue byte of 0xRRGGBB (R46). -/
def rgbBlue (p : Rgb) : Byte := p.extractLsb' 0 8

/-- R192: a pixel's 24 bits: green, red, blue. -/
def pixelBits (p : Rgb) : List Bool :=
  byteBits (rgbGreen p) ++ byteBits (rgbRed p) ++ byteBits (rgbBlue p)

/-- R192: the bits of the pixels given by f, pixel 0 first. -/
def stripBits (n : Nat) (f : Nat → Rgb) : List Bool :=
  (List.range n).flatMap fun i => pixelBits (f i)

end Sys2Proof.Machine
end

