-- ==== Sys2Proof/Machine/Flags.lean ====
section
/-! DEFINITION. The flag and value computations of the rules: checksum, staleness, arbitration, sounding, light
selection, timing validity, the waveform, and the interrupt bits. Each is a pure function; Machine/Ops.lean applies
them to the state. -/

namespace Sys2Proof.Machine

/-! ### Frame decoder (40_frame_decoder.md) -/

/-- R106: the 16-bit sum of frame bytes 0 to 29. -/
def frameSum (b : Vector Byte 32) : Half :=
  BitVec.ofNat 16 ((b.toList.take 30).map BitVec.toNat).sum

/-- R106: whether the sum equals the checksum the frame carries. -/
def checksumOk (b : Vector Byte 32) : Bool := frameSum b == frameChecksum b

/-! ### Staleness timer (R128) -/

/-- The STALE flag for a value of SCNT (R128; the comparison is STALE_CMP of R8). -/
def staleFlag (cmp : StaleCmp) (scnt : Byte) : Bool :=
  match cmp with
  | .ge => decide (30 ≤ scnt.toNat)
  | .gt => decide (30 < scnt.toNat)

/-- R128: SCNT after a STEP: 0 if a record was published since the last one, else one more, saturating at 255. -/
def nextScnt (rss : Bool) (scnt : Byte) : Byte :=
  if rss then 0 else BitVec.ofNat 8 (min (scnt.toNat + 1) 255)

/-! ### Interrupt bits (R44) -/

/-- IRQ_PEND.REC. -/
def irqRec : BitVec 3 := 0b001#3
/-- IRQ_PEND.LDONE. -/
def irqLdone : BitVec 3 := 0b010#3
/-- IRQ_PEND.STALE. -/
def irqStale : BitVec 3 := 0b100#3

/-- R233: write 1 to clear. -/
def clearOnes (pend ones : BitVec 3) : BitVec 3 := pend &&& ~~~ones

/-- R254: the request line. -/
def irqLine (pend en : BitVec 3) : Bool :=
  (pend.getLsbD 0 && en.getLsbD 0) || (pend.getLsbD 1 && en.getLsbD 1) || (pend.getLsbD 2 && en.getLsbD 2)

/-! ### Arbitration (41_alarm_arbitrator.md) -/

/-- R147: the effective faults. -/
structure Faults where
  pf : Bool
  tf : Bool
  sf : Bool
deriving DecidableEq, Repr

/-- R147: eff_faults. -/
def effFaults (inp : Word) (stale : Bool) : Faults where
  pf := arbPfault inp || stale
  tf := arbTfault inp
  sf := arbSfault inp

/-- R148: the environmental alarms after masking. -/
structure EnvAlarms where
  pm : Bool
  temp : Bool
  humi : Bool
deriving DecidableEq, Repr

/-- R148: mask. -/
def maskAlarms (inp : Word) (f : Faults) : EnvAlarms where
  pm := arbPm inp && !f.pf
  temp := arbTemp inp && !f.tf
  humi := arbHumi inp && !f.tf

/-- Whether a masked environmental alarm holds. -/
def envHolds (e : EnvAlarms) : EnvAlarm → Bool
  | .pm => e.pm
  | .temp => e.temp
  | .humi => e.humi

/-- The cause an environmental alarm gives (R149). -/
def envCause : EnvAlarm → Cause
  | .pm => .pm
  | .temp => .temp
  | .humi => .humi

/-- ENV_ORDER as a ranking, highest first (R8). -/
def envRanking : EnvOrder → EnvAlarm × EnvAlarm × EnvAlarm
  | .pmTempHumi => (.pm, .temp, .humi)
  | .pmHumiTemp => (.pm, .humi, .temp)
  | .tempPmHumi => (.temp, .pm, .humi)
  | .tempHumiPm => (.temp, .humi, .pm)
  | .humiPmTemp => (.humi, .pm, .temp)
  | .humiTempPm => (.humi, .temp, .pm)

/-- R149: the priority order. SFAULT takes no part unless SFAULT_ESCALATES is set (R8, D10); the environmental
alarms are ranked by ENV_ORDER (R8, D12). -/
def arbitrate (c : Config) (inp : Word) (f : Faults) (e : EnvAlarms) : Status × Cause :=
  let r := envRanking c.envOrder
  if f.pf || f.tf || (c.sfaultEscalates && f.sf) then (.envWarning, .fault)
  else if arbFire inp then (.fireAlert, .fire)
  else if arbIntr inp then (.intrusion, .intr)
  else if envHolds e r.1 then (.envWarning, envCause r.1)
  else if envHolds e r.2.1 then (.envWarning, envCause r.2.1)
  else if envHolds e r.2.2 then (.envWarning, envCause r.2.2)
  else (.normal, .none)

/-- R150: alarm_any. -/
def alarmAny (inp : Word) (e : EnvAlarms) : Bool :=
  arbFire inp || arbIntr inp || e.pm || e.temp || e.humi

/-- R151: the duration counter after a STEP. -/
def nextDur (any : Bool) (dur0 : Byte) : Byte :=
  if any then BitVec.ofNat 8 (min (dur0.toNat + 1) 50) else 0

/-- R151: SOUND, comparing the counter before the increment; with SOUND_CMP_PRE = false, after it (R8, D14). -/
def soundFlag (c : Config) (any : Bool) (dur0 : Byte) (silent : Bool) : Bool :=
  any && decide ((if c.soundCmpPre then dur0.toNat else (nextDur any dur0).toNat) < 50) && !silent

/-- R152: fault_code, the lowest code that applies. -/
def faultCode (f : Faults) : BitVec 2 :=
  if f.tf then 1 else if f.pf then 2 else if f.sf then 3 else 0

/-- R165: the colour of a cause. NONE has no flash colour; its light is chosen in `selectLight`. -/
def causeColour (t : ColorTable) : Cause → Rgb
  | .none => t.off
  | .fault => t.yellow
  | .fire => t.red
  | .intr => t.purple
  | .pm => t.orange
  | .temp => t.yellow
  | .humi => t.blue

/-- R165: the flash period of a cause, in ticks. -/
def causePeriod : Cause → Byte
  | .none => 0
  | .fault => 10
  | .fire => 1
  | .intr => 5
  | .pm => 2
  | .temp => 5
  | .humi => 10

/-- R153: what select_light returns. -/
structure LightChoice where
  kind : Kind
  rgb : Rgb
  period : Byte
  pos : Byte
deriving DecidableEq, Repr

/-- R153: select_light. -/
def selectLight (c : Config) (acfg : Word) (cause : Cause) (t : Word) : LightChoice :=
  if cfgEmerg acfg then ⟨.solid, c.colors.white, 0, 0⟩
  else if cfgEdit acfg then ⟨.moving, c.colors.white, 0, BitVec.ofNat 8 (t.toNat % c.nPix)⟩
  else if cause = .none then
    if cfgLoff acfg then ⟨.off, c.colors.off, 0, 0⟩ else ⟨.solid, c.colors.green, 0, 0⟩
  else ⟨.flash, causeColour c.colors cause, causePeriod cause, 0⟩

/-- R154: lit_phase. -/
def litPhase (kind : Kind) (period : Byte) (t : Word) : Bool :=
  match kind with
  | .off => false
  | .solid => true
  | .moving => true
  | .flash => t.toNat / period.toNat % 2 == 0

/-! ### LED encoder (42_led_encoder.md) -/

/-- R197: timing_ok. -/
def timingOk (t0h t1h tbit trst : Half) : Bool :=
  decide (1 ≤ t0h.toNat) && decide (t0h.toNat < t1h.toNat) && decide (t1h.toNat < tbit.toNat) && decide (1 ≤ trst.toNat)

/-- R203: the colour of pixel i rendered from the LIGHT registers. -/
def renderPixel (light lightRgb lightPos : Word) (i : Nat) : Rgb :=
  match kindOfCode (lightKind light) with
  | .off => 0
  | .solid => lightRgbColour lightRgb
  | .flash => if lightLit light then lightRgbColour lightRgb else 0
  | .moving => if i = (lightPosIndex lightPos).toNat then lightRgbColour lightRgb else 0

/-- R193: NB, the number of data bits of a burst. -/
def burstBits (nPix : Nat) : Nat := 24 * nPix

/-- R194: the number of cycles of a burst, data and reset interval. -/
def burstTotal (nPix : Nat) (tbit trst : Half) : Nat := burstBits nPix * tbit.toNat + trst.toNat

/-- R193: H(b), the high time of data bit b. -/
def highTime (lbits : List Bool) (t0h t1h : Half) (b : Nat) : Nat :=
  if lbits.getD b false then t1h.toNat else t0h.toNat

/-- R193: the level of the line in cycle t of a burst. -/
def burstLevel (nPix : Nat) (lbits : List Bool) (t0h t1h tbit : Half) (t : Nat) : Bool :=
  decide (t < burstBits nPix * tbit.toNat) && decide (t % tbit.toNat < highTime lbits t0h t1h (t / tbit.toNat))

end Sys2Proof.Machine
end

