-- ==== Sys2Proof/Machine/Ops.lean ====
section
/-! DEFINITION. The named operations on the state that the meanings share. The block has no traps: what the rules
call exceptions are conditions, and `State.signal` is the one operation that records that one occurred (00_scope.md
R13, 60_exceptions.md R251, R252); there is no exception entry and so no return from one. -/

namespace Sys2Proof.Machine

/-! ### Outputs and conditions -/

/-- R14: a bus read returns v. -/
def State.returns (s : State) (v : Word) : State := { s with out := .readData v }

/-- R14, R202: a CLK returns the level b. -/
def State.drives (s : State) (b : Bool) : State := { s with out := .lineLevel b }

/-- R13: records that condition x occurred. -/
def State.signal (s : State) (x : Condition) : State := { s with conds := s.conds ++ [x] }

/-- R64, R237: a read that finds nothing returns 0 and signals X7. -/
def State.ignoreRead (s : State) : State := (s.returns 0).signal .ignoredAccess

/-- R64, R236, R238: a write that is ignored changes no state and signals X7. -/
def State.ignoreWrite (s : State) : State := s.signal .ignoredAccess

/-- The start of an operation: the operations after it stay pending, and it has returned and signalled nothing yet
(log entries 7, 8). -/
def State.startOp (s : State) (rest : List Op) : State := { s with pending := rest, out := .none, conds := [] }

/-! ### Output ports (R53) -/

/-- R53: `buzz_o`. -/
def State.buzzO (s : State) : Bool := statSound s.arbStat

/-- R254: `irq_o`. -/
def State.irqO (s : State) : Bool := irqLine s.irqPend s.irqEn

/-- R53, R193: `led_dout`, 0 while no burst is running. -/
def State.ledDout (s : State) : Bool :=
  s.lbusy && burstLevel s.cfg.nPix s.lbits s.lt0h s.lt1h s.ltbit s.lt.toNat

/-! ### Pixel RAM -/

/-- The word at index i (R46). An index outside the RAM is never read: R213 tests i < N_PIX first. -/
def Memory.read (m : Memory) (i : Nat) : Rgb := m.getD i 0

/-- Stores v at index i (R212). -/
def Memory.write (m : Memory) (i : Nat) (v : Rgb) : Memory := m.set i v

/-! ### Frame decoder and mailbox (40_frame_decoder.md) -/

/-- Stores a received byte at index n of the frame buffer (R101). -/
def State.bufferByte (s : State) (n : Fin 32) (d : Byte) : State :=
  { s with dbuf := s.dbuf.set n.val d n.isLt }

/-- The decoder's next state and byte count (R101). -/
def State.decoderTo (s : State) (st : DState) (n : Fin 32) : State := { s with dstate := st, dcnt := n }

/-- R107: publish. An unread record is overwritten (X9). -/
def State.publish (s : State) : State :=
  let t := { s with
    ovr := s.ovr || s.fresh
    mb := frameRecord s.dbuf
    fresh := true
    rss := true
    irqPend := s.irqPend ||| irqRec }
  if s.fresh then t.signal .recordOverwrite else t

/-- R108: discard. -/
def State.discard (s : State) : State := s.signal .checksumFail

/-- R103: RX in AwaitSync1. -/
def State.rxSync1 (s : State) (d : Byte) : State :=
  if d = 0x42#8 then (s.bufferByte 0 d).decoderTo .awaitSync2 1 else s

/-- R104: RX in AwaitSync2. The byte is consumed, not looked at again. -/
def State.rxSync2 (s : State) (d : Byte) : State :=
  if d = 0x4D#8 then (s.bufferByte 1 d).decoderTo .collecting 2
  else (s.decoderTo .awaitSync1 0).signal .syncLost

/-- R105: RX in Collecting. -/
def State.rxCollect (s : State) (d : Byte) : State :=
  let t := s.bufferByte s.dcnt d
  if s.dcnt = 31 then
    (if checksumOk t.dbuf then t.publish else t.discard).decoderTo .awaitSync1 0
  else t.decoderTo .collecting (s.dcnt + 1)

/-- R102: one received byte. -/
def State.rxByte (s : State) (d : Byte) : State :=
  match s.dstate with
  | .awaitSync1 => s.rxSync1 d
  | .awaitSync2 => s.rxSync2 d
  | .collecting => s.rxCollect d

/-- R110: takes the record if one is fresh. -/
def State.takeRecord (s : State) : State :=
  if s.fresh then { s with snap := s.mb, fresh := false, ovr := false } else s

/-- R111-R125: the read of snapshot word k. -/
def State.readSnap (s : State) (k : Fin 15) : State := s.returns (halfWord s.snap[k])

/-! ### Staleness timer and arbitrator -/

/-- R128: stale_update. -/
def State.staleUpdate (s : State) : State :=
  let n := nextScnt s.rss s.scnt
  { s with scnt := n, rss := false, stale := staleFlag s.cfg.staleCmp n }

/-- R155, and X8 of R251: STALE rose at this STEP (log entry 9). -/
def State.staleIrq (s : State) (prev : Bool) : State :=
  if !prev && s.stale then ({ s with irqPend := s.irqPend ||| irqStale }).signal .sensorStale else s

/-- R146-R154, R156: samples the inputs, arbitrates and commits the outputs. -/
def State.arbitrateAndCommit (s : State) : State :=
  let f := effFaults s.arbIn s.stale
  let e := maskAlarms s.arbIn f
  let sc := arbitrate s.cfg s.arbIn f e
  let any := alarmAny s.arbIn e
  let dur0 := statDur s.arbStat
  let sound := soundFlag s.cfg any dur0 (cfgSilent s.arbCfg)
  let l := selectLight s.cfg s.arbCfg sc.2 s.tick
  { s with
    arbStat := arbStatWord (nextDur any dur0) (faultCode f) any sound sc.2 sc.1
    light := lightWord l.period (litPhase l.kind l.period s.tick) l.kind
    lightRgb := lightRgbWord l.rgb
    lightPos := lightPosWord l.pos }

/-- R145: one STEP, the stages in their order. -/
def State.arbStep (s : State) : State :=
  (s.staleUpdate.staleIrq s.stale).arbitrateAndCommit

/-- R162: one tick of the time base, modulo 2^32. -/
def State.tickOnce (s : State) : State := { s with tick := s.tick + 1 }

/-! ### LED encoder (42_led_encoder.md) -/

/-- R192, R203: the colour the chosen pixel source gives for pixel i. -/
def State.sourcePixel (s : State) (i : Nat) : Rgb :=
  if s.pixsrc then renderPixel s.light s.lightRgb s.lightPos i else s.pix.read i

/-- R198: accept. -/
def State.acceptBurst (s : State) : State :=
  { s with
    lbits := stripBits s.cfg.nPix s.sourcePixel
    lt0h := s.ledT0h
    lt1h := s.ledT1h
    ltbit := s.ledTbit
    ltrst := s.ledTrst
    lt := 0
    lbusy := true }

/-- R196: refresh_request. BUSY is tested first. -/
def State.refreshRequest (s : State) : State :=
  if s.lbusy then ({ s with rdrop := true }).signal .refreshBusy
  else if timingOk s.ledT0h s.ledT1h s.ledTbit s.ledTrst then s.acceptBurst
  else ({ s with cfgerr := true }).signal .ledCfgInvalid

/-- R195: a write to LED_CTRL. The request sees the newly written PIXSRC. -/
def State.writeLedCtrl (s : State) (v : Word) : State :=
  let t := { s with pixsrc := v.getLsbD 1 }
  if v.getLsbD 0 then t.refreshRequest else t

/-- R201: a write to LED_STAT clears the sticky bits that are 1 in v. -/
def State.writeLedStat (s : State) (v : Word) : State :=
  { s with
    cfgerr := s.cfgerr && !v.getLsbD 1
    wdrop := s.wdrop && !v.getLsbD 2
    rdrop := s.rdrop && !v.getLsbD 3 }

/-- R204-R212: a write that arrives while BUSY is dropped: WDROP and X6. -/
def State.dropWrite (s : State) : State := ({ s with wdrop := true }).signal .writeWhileBusy

/-- R202: one clock cycle of the encoder. -/
def State.clkOnce (s : State) : State :=
  if s.lbusy then
    let t := s.drives s.ledDout
    if (s.lt + 1).toNat = burstTotal s.cfg.nPix s.ltbit s.ltrst then
      { t with lbusy := false, lt := 0, irqPend := s.irqPend ||| irqLdone }
    else { t with lt := s.lt + 1 }
  else s.drives false

/-- R213: a read of pixel slot i. A slot past the strip reads 0; whether that signals nothing (R213) or X7 (R251) is
the parameter pixReadSignals (log entry 10). -/
def State.readPixel (s : State) (i : BitVec 8) : State :=
  if i.toNat < s.cfg.nPix then s.returns (pixelWord (s.pix.read i.toNat))
  else if s.cfg.pixReadSignals then s.ignoreRead
  else s.returns 0

/-- R212: a write of pixel slot i. The slot is looked at before BUSY. -/
def State.writePixelSlot (s : State) (i : BitVec 8) (v : Word) : State :=
  if i.toNat < s.cfg.nPix then
    if s.lbusy then s.dropWrite else { s with pix := s.pix.write i.toNat (writePixel v) }
  else s.ignoreWrite

/-! ### Reset (70_reset_and_hazards.md) -/

/-- R271, R274: every state element at its reset value, PIX drawn afresh. The parameters and the operations the
environment will present are not state elements of the block and stay. -/
def State.resetBlock (s : State) : State :=
  { State.resetOf s.cfg s.draws with pending := s.pending }

end Sys2Proof.Machine
end

