-- ==== Sys2Proof/Machine/Arbitrator.lean ====
section
/-! DEFINITION. The alarm arbitrator and the time base (41_alarm_arbitrator.md): the input registers, the STEP, the output
reads and the TICK event. -/

namespace Sys2Proof.Machine

/-- R142: RD ARB_IN. -/
def execRdArbIn (s : State) : Host.Outcome State Fault Refusal :=
  .next (s.returns s.arbIn)

/-- R144: RD ARB_CFG. -/
def execRdArbCfg (s : State) : Host.Outcome State Fault Refusal :=
  .next (s.returns s.arbCfg)

/-- R157: RD ARB_STEP returns 0 and performs no STEP. -/
def execRdArbStep (s : State) : Host.Outcome State Fault Refusal :=
  .next (s.returns 0)

/-- R158: RD ARB_STAT. -/
def execRdArbStat (s : State) : Host.Outcome State Fault Refusal :=
  .next (s.returns s.arbStat)

/-- R159: RD LIGHT. -/
def execRdLight (s : State) : Host.Outcome State Fault Refusal :=
  .next (s.returns s.light)

/-- R160: RD LIGHT_RGB. -/
def execRdLightRgb (s : State) : Host.Outcome State Fault Refusal :=
  .next (s.returns s.lightRgb)

/-- R161: RD LIGHT_POS. -/
def execRdLightPos (s : State) : Host.Outcome State Fault Refusal :=
  .next (s.returns s.lightPos)

/-- R163: RD TICK. -/
def execRdTick (s : State) : Host.Outcome State Fault Refusal :=
  .next (s.returns s.tick)

/-- R141: WR ARB_IN. -/
def execWrArbIn (v : Word) (s : State) : Host.Outcome State Fault Refusal :=
  .next { s with arbIn := v &&& arbInMask }

/-- R143: WR ARB_CFG. -/
def execWrArbCfg (v : Word) (s : State) : Host.Outcome State Fault Refusal :=
  .next { s with arbCfg := v &&& arbCfgMask }

/-- R145: WR ARB_STEP, one STEP whatever the write data. -/
def execWrArbStep (_v : Word) (s : State) : Host.Outcome State Fault Refusal :=
  .next s.arbStep

/-- R162: the TICK event. -/
def execTick (s : State) : Host.Outcome State Fault Refusal :=
  .next s.tickOnce

end Sys2Proof.Machine
end

