-- ==== Sys2Proof/Machine/Control.lean ====
section
/-! DEFINITION. Identification, interrupt registers, the writes to read-only registers that are ignored
(43_control_registers.md R231-R236), and the RESET event (70_reset_and_hazards.md R274). -/

namespace Sys2Proof.Machine

/-- R231: RD ID. -/
def execRdId (s : State) : Host.Outcome State Fault Refusal :=
  .next (s.returns idWord)

/-- R232: RD IRQ_PEND. -/
def execRdIrqPend (s : State) : Host.Outcome State Fault Refusal :=
  .next (s.returns (irqWord s.irqPend))

/-- R234: RD IRQ_EN. -/
def execRdIrqEn (s : State) : Host.Outcome State Fault Refusal :=
  .next (s.returns (irqWord s.irqEn))

/-- R236: WR ID, a read-only register, is ignored. -/
def execWrId (_v : Word) (s : State) : Host.Outcome State Fault Refusal :=
  .next s.ignoreWrite

/-- R236: WR DEC_STAT, a read-only register, is ignored. -/
def execWrDecStat (_v : Word) (s : State) : Host.Outcome State Fault Refusal :=
  .next s.ignoreWrite

/-- R236: WR MB_STAT, a read-only register, is ignored. -/
def execWrMbStat (_v : Word) (s : State) : Host.Outcome State Fault Refusal :=
  .next s.ignoreWrite

/-- R236: WR SNAP0, a read-only register, is ignored. -/
def execWrSnap0 (_v : Word) (s : State) : Host.Outcome State Fault Refusal :=
  .next s.ignoreWrite

/-- R236: WR SNAP1, a read-only register, is ignored. -/
def execWrSnap1 (_v : Word) (s : State) : Host.Outcome State Fault Refusal :=
  .next s.ignoreWrite

/-- R236: WR SNAP2, a read-only register, is ignored. -/
def execWrSnap2 (_v : Word) (s : State) : Host.Outcome State Fault Refusal :=
  .next s.ignoreWrite

/-- R236: WR SNAP3, a read-only register, is ignored. -/
def execWrSnap3 (_v : Word) (s : State) : Host.Outcome State Fault Refusal :=
  .next s.ignoreWrite

/-- R236: WR SNAP4, a read-only register, is ignored. -/
def execWrSnap4 (_v : Word) (s : State) : Host.Outcome State Fault Refusal :=
  .next s.ignoreWrite

/-- R236: WR SNAP5, a read-only register, is ignored. -/
def execWrSnap5 (_v : Word) (s : State) : Host.Outcome State Fault Refusal :=
  .next s.ignoreWrite

/-- R236: WR SNAP6, a read-only register, is ignored. -/
def execWrSnap6 (_v : Word) (s : State) : Host.Outcome State Fault Refusal :=
  .next s.ignoreWrite

/-- R236: WR SNAP7, a read-only register, is ignored. -/
def execWrSnap7 (_v : Word) (s : State) : Host.Outcome State Fault Refusal :=
  .next s.ignoreWrite

/-- R236: WR SNAP8, a read-only register, is ignored. -/
def execWrSnap8 (_v : Word) (s : State) : Host.Outcome State Fault Refusal :=
  .next s.ignoreWrite

/-- R236: WR SNAP9, a read-only register, is ignored. -/
def execWrSnap9 (_v : Word) (s : State) : Host.Outcome State Fault Refusal :=
  .next s.ignoreWrite

/-- R236: WR SNAP10, a read-only register, is ignored. -/
def execWrSnap10 (_v : Word) (s : State) : Host.Outcome State Fault Refusal :=
  .next s.ignoreWrite

/-- R236: WR SNAP11, a read-only register, is ignored. -/
def execWrSnap11 (_v : Word) (s : State) : Host.Outcome State Fault Refusal :=
  .next s.ignoreWrite

/-- R236: WR SNAP12, a read-only register, is ignored. -/
def execWrSnap12 (_v : Word) (s : State) : Host.Outcome State Fault Refusal :=
  .next s.ignoreWrite

/-- R236: WR SNAP13, a read-only register, is ignored. -/
def execWrSnap13 (_v : Word) (s : State) : Host.Outcome State Fault Refusal :=
  .next s.ignoreWrite

/-- R236: WR SNAP14, a read-only register, is ignored. -/
def execWrSnap14 (_v : Word) (s : State) : Host.Outcome State Fault Refusal :=
  .next s.ignoreWrite

/-- R236: WR STALE, a read-only register, is ignored. -/
def execWrStale (_v : Word) (s : State) : Host.Outcome State Fault Refusal :=
  .next s.ignoreWrite

/-- R236: WR ARB_STAT, a read-only register, is ignored. -/
def execWrArbStat (_v : Word) (s : State) : Host.Outcome State Fault Refusal :=
  .next s.ignoreWrite

/-- R236: WR LIGHT, a read-only register, is ignored. -/
def execWrLight (_v : Word) (s : State) : Host.Outcome State Fault Refusal :=
  .next s.ignoreWrite

/-- R236: WR LIGHT_RGB, a read-only register, is ignored. -/
def execWrLightRgb (_v : Word) (s : State) : Host.Outcome State Fault Refusal :=
  .next s.ignoreWrite

/-- R236: WR LIGHT_POS, a read-only register, is ignored. -/
def execWrLightPos (_v : Word) (s : State) : Host.Outcome State Fault Refusal :=
  .next s.ignoreWrite

/-- R236: WR TICK, a read-only register, is ignored. -/
def execWrTick (_v : Word) (s : State) : Host.Outcome State Fault Refusal :=
  .next s.ignoreWrite

/-- R233: WR IRQ_PEND, write 1 to clear. -/
def execWrIrqPend (v : Word) (s : State) : Host.Outcome State Fault Refusal :=
  .next { s with irqPend := clearOnes s.irqPend (writeIrq v) }

/-- R235: WR IRQ_EN. -/
def execWrIrqEn (v : Word) (s : State) : Host.Outcome State Fault Refusal :=
  .next { s with irqEn := writeIrq v }

/-- R274: the RESET event. -/
def execReset (s : State) : Host.Outcome State Fault Refusal :=
  .next s.resetBlock

end Sys2Proof.Machine
end

