-- ==== Sys2Proof/Machine/Decoder.lean ====
section
/-! DEFINITION. The frame decoder, the mailbox and the staleness timer (40_frame_decoder.md): RX, the MB_STAT read-and-clear
and the other reads of that family. Every operation is a function from the state to the next state (R14); none fails. -/

namespace Sys2Proof.Machine

/-- R126: RD DEC_STAT. -/
def execRdDecStat (s : State) : Host.Outcome State Fault Refusal :=
  .next (s.returns (decStatWord s.dstate s.dcnt))

/-- R110: RD MB_STAT, the flags before the read, and the record taken if one is fresh. -/
def execRdMbStat (s : State) : Host.Outcome State Fault Refusal :=
  .next ((s.returns (mbStatWord s.ovr s.fresh)).takeRecord)

/-- R111: RD SNAP0 (HDR). -/
def execRdSnap0 (s : State) : Host.Outcome State Fault Refusal :=
  .next (s.readSnap 0)

/-- R112: RD SNAP1 (PM1_0_STD). -/
def execRdSnap1 (s : State) : Host.Outcome State Fault Refusal :=
  .next (s.readSnap 1)

/-- R113: RD SNAP2 (PM2_5_STD). -/
def execRdSnap2 (s : State) : Host.Outcome State Fault Refusal :=
  .next (s.readSnap 2)

/-- R114: RD SNAP3 (PM10_STD). -/
def execRdSnap3 (s : State) : Host.Outcome State Fault Refusal :=
  .next (s.readSnap 3)

/-- R115: RD SNAP4 (PM1_0_ATM). -/
def execRdSnap4 (s : State) : Host.Outcome State Fault Refusal :=
  .next (s.readSnap 4)

/-- R116: RD SNAP5 (PM2_5_ATM). -/
def execRdSnap5 (s : State) : Host.Outcome State Fault Refusal :=
  .next (s.readSnap 5)

/-- R117: RD SNAP6 (PM10_ATM). -/
def execRdSnap6 (s : State) : Host.Outcome State Fault Refusal :=
  .next (s.readSnap 6)

/-- R118: RD SNAP7 (BIN1). -/
def execRdSnap7 (s : State) : Host.Outcome State Fault Refusal :=
  .next (s.readSnap 7)

/-- R119: RD SNAP8 (BIN2). -/
def execRdSnap8 (s : State) : Host.Outcome State Fault Refusal :=
  .next (s.readSnap 8)

/-- R120: RD SNAP9 (BIN3). -/
def execRdSnap9 (s : State) : Host.Outcome State Fault Refusal :=
  .next (s.readSnap 9)

/-- R121: RD SNAP10 (BIN4). -/
def execRdSnap10 (s : State) : Host.Outcome State Fault Refusal :=
  .next (s.readSnap 10)

/-- R122: RD SNAP11 (BIN5). -/
def execRdSnap11 (s : State) : Host.Outcome State Fault Refusal :=
  .next (s.readSnap 11)

/-- R123: RD SNAP12 (BIN6). -/
def execRdSnap12 (s : State) : Host.Outcome State Fault Refusal :=
  .next (s.readSnap 12)

/-- R124: RD SNAP13 (RSV). -/
def execRdSnap13 (s : State) : Host.Outcome State Fault Refusal :=
  .next (s.readSnap 13)

/-- R125: RD SNAP14 (CHK). -/
def execRdSnap14 (s : State) : Host.Outcome State Fault Refusal :=
  .next (s.readSnap 14)

/-- R127: RD STALE. -/
def execRdStale (s : State) : Host.Outcome State Fault Refusal :=
  .next (s.returns (staleWord s.rss s.stale s.scnt))

/-- R102: RX, one byte from the UART receiver. -/
def execRx (d : Byte) (s : State) : Host.Outcome State Fault Refusal :=
  .next (s.rxByte d)

end Sys2Proof.Machine
end

