-- ==== Sys2Proof/Machine/LedEncoder.lean ====
section
/-! DEFINITION. The LED signal encoder and the pixel RAM (42_led_encoder.md): control, status, timing and pixel accesses,
and the CLK event. -/

namespace Sys2Proof.Machine

/-- R199: RD LED_CTRL. -/
def execRdLedCtrl (s : State) : Host.Outcome State Fault Refusal :=
  .next (s.returns (ledCtrlWord s.pixsrc))

/-- R200: RD LED_STAT. -/
def execRdLedStat (s : State) : Host.Outcome State Fault Refusal :=
  .next (s.returns (ledStatWord s.rdrop s.wdrop s.cfgerr s.lbusy))

/-- R205: RD LED_T0H. -/
def execRdLedT0h (s : State) : Host.Outcome State Fault Refusal :=
  .next (s.returns (halfWord s.ledT0h))

/-- R207: RD LED_T1H. -/
def execRdLedT1h (s : State) : Host.Outcome State Fault Refusal :=
  .next (s.returns (halfWord s.ledT1h))

/-- R209: RD LED_TBIT. -/
def execRdLedTbit (s : State) : Host.Outcome State Fault Refusal :=
  .next (s.returns (halfWord s.ledTbit))

/-- R211: RD LED_TRST. -/
def execRdLedTrst (s : State) : Host.Outcome State Fault Refusal :=
  .next (s.returns (halfWord s.ledTrst))

/-- R195: WR LED_CTRL. -/
def execWrLedCtrl (v : Word) (s : State) : Host.Outcome State Fault Refusal :=
  .next (s.writeLedCtrl v)

/-- R201: WR LED_STAT. -/
def execWrLedStat (v : Word) (s : State) : Host.Outcome State Fault Refusal :=
  .next (s.writeLedStat v)

/-- R204: WR LED_T0H, dropped while BUSY. -/
def execWrLedT0h (v : Word) (s : State) : Host.Outcome State Fault Refusal :=
  .next (if s.lbusy then s.dropWrite else { s with ledT0h := writeHalf v })

/-- R206: WR LED_T1H, dropped while BUSY. -/
def execWrLedT1h (v : Word) (s : State) : Host.Outcome State Fault Refusal :=
  .next (if s.lbusy then s.dropWrite else { s with ledT1h := writeHalf v })

/-- R208: WR LED_TBIT, dropped while BUSY. -/
def execWrLedTbit (v : Word) (s : State) : Host.Outcome State Fault Refusal :=
  .next (if s.lbusy then s.dropWrite else { s with ledTbit := writeHalf v })

/-- R210: WR LED_TRST, dropped while BUSY. -/
def execWrLedTrst (v : Word) (s : State) : Host.Outcome State Fault Refusal :=
  .next (if s.lbusy then s.dropWrite else { s with ledTrst := writeHalf v })

/-- R213: RD PIX[i]. -/
def execRdPix (i : BitVec 8) (s : State) : Host.Outcome State Fault Refusal :=
  .next (s.readPixel i)

/-- R212: WR PIX[i]. -/
def execWrPix (i : BitVec 8) (v : Word) (s : State) : Host.Outcome State Fault Refusal :=
  .next (s.writePixelSlot i v)

/-- R202: the CLK event. -/
def execClk (s : State) : Host.Outcome State Fault Refusal :=
  .next s.clkOnce

end Sys2Proof.Machine
end

