-- ==== Sys2Proof/WellFormed.lean ====
section
/-! DEFINITION. Which terms of Instr stand for a descriptor. Every field of a row has exactly the row's don't-care
bits, so a term is ill-formed only where the table's own rows overlap: a descriptor with CLS = 11 is the row
`refused CLS=11` whatever its Z bits are (R82 names CLS first; log entry 13), so the two `refused Z` rows keep
CLS = 00, 01 or 10. -/

namespace Sys2Proof

/-- Whether the term is the table's reading of its own descriptor. -/
def Instr.wellFormed : Instr → Bool
  | .rdId => true
  | .rdDecStat => true
  | .rdMbStat => true
  | .rdSnap0 => true
  | .rdSnap1 => true
  | .rdSnap2 => true
  | .rdSnap3 => true
  | .rdSnap4 => true
  | .rdSnap5 => true
  | .rdSnap6 => true
  | .rdSnap7 => true
  | .rdSnap8 => true
  | .rdSnap9 => true
  | .rdSnap10 => true
  | .rdSnap11 => true
  | .rdSnap12 => true
  | .rdSnap13 => true
  | .rdSnap14 => true
  | .rdStale => true
  | .rdArbIn => true
  | .rdArbCfg => true
  | .rdArbStep => true
  | .rdArbStat => true
  | .rdLight => true
  | .rdLightRgb => true
  | .rdLightPos => true
  | .rdTick => true
  | .rdLedCtrl => true
  | .rdLedStat => true
  | .rdLedT0h => true
  | .rdLedT1h => true
  | .rdLedTbit => true
  | .rdLedTrst => true
  | .rdIrqPend => true
  | .rdIrqEn => true
  | .wrId _ => true
  | .wrDecStat _ => true
  | .wrMbStat _ => true
  | .wrSnap0 _ => true
  | .wrSnap1 _ => true
  | .wrSnap2 _ => true
  | .wrSnap3 _ => true
  | .wrSnap4 _ => true
  | .wrSnap5 _ => true
  | .wrSnap6 _ => true
  | .wrSnap7 _ => true
  | .wrSnap8 _ => true
  | .wrSnap9 _ => true
  | .wrSnap10 _ => true
  | .wrSnap11 _ => true
  | .wrSnap12 _ => true
  | .wrSnap13 _ => true
  | .wrSnap14 _ => true
  | .wrStale _ => true
  | .wrArbIn _ => true
  | .wrArbCfg _ => true
  | .wrArbStep _ => true
  | .wrArbStat _ => true
  | .wrLight _ => true
  | .wrLightRgb _ => true
  | .wrLightPos _ => true
  | .wrTick _ => true
  | .wrLedCtrl _ => true
  | .wrLedStat _ => true
  | .wrLedT0h _ => true
  | .wrLedT1h _ => true
  | .wrLedTbit _ => true
  | .wrLedTrst _ => true
  | .wrIrqPend _ => true
  | .wrIrqEn _ => true
  | .rdPix _ => true
  | .wrPix _ _ => true
  | .rdReserved00C => true
  | .wrReserved00C _ => true
  | .rdReserved090 _ => true
  | .wrReserved090 _ _ => true
  | .rdReserved0A0 _ => true
  | .wrReserved0A0 _ _ => true
  | .rdReserved0C0 _ => true
  | .wrReserved0C0 _ _ => true
  | .rdReserved100 _ => true
  | .wrReserved100 _ _ => true
  | .rdReserved200 _ => true
  | .wrReserved200 _ _ => true
  | .rdReserved800 _ => true
  | .wrReserved800 _ _ => true
  | .rdMisalignedOdd _ => true
  | .rdMisalignedHalf _ => true
  | .wrMisalignedOdd _ _ => true
  | .wrMisalignedHalf _ _ => true
  | .rx _ => true
  | .tick => true
  | .clk => true
  | .reset => true
  | .refusedEvt004 _ => true
  | .refusedEvt008 _ => true
  | .refusedEvt010 _ => true
  | .refusedEvt020 _ => true
  | .refusedEvt040 _ => true
  | .refusedEvt080 _ => true
  | .refusedEvt100 _ => true
  | .refusedEvt200 _ => true
  | .refusedEvt400 _ => true
  | .refusedEvt800 _ => true
  | .refusedCls11 _ => true
  | .refusedZ01 cls _ => cls != 0b11#2
  | .refusedZ1x cls _ _ => cls != 0b11#2

end Sys2Proof
end

