-- ==== Sys2Proof/Decode.lean ====
section
/-! DEFINITION. The decoder of 30_encoding.md R81-R88, total on every descriptor and every operand, and the encoder
written from the same table. A reserved descriptor (R82, R83, R88) decodes to the `refused` row that names it, and
that row's meaning refuses (condition X1), so no descriptor falls through to a neighbour. -/

namespace Sys2Proof

/-- CLS = 00, a bus read: a misaligned offset first (R64, R84), then the pixel window (R85), the reserved ranges (R88) and the
register table of R84. -/
def decodeRead (off : Offset) : Instr :=
  if off.getLsbD 0 then .rdMisalignedOdd (off.extractLsb' 1 11)
  else if off.getLsbD 1 then .rdMisalignedHalf (off.extractLsb' 2 10)
  else if off.getLsbD 11 then .rdReserved800 (off.extractLsb' 2 9)
  else if off.getLsbD 10 then .rdPix (off.extractLsb' 2 8)
  else if off.getLsbD 9 then .rdReserved200 (off.extractLsb' 2 7)
  else if off.getLsbD 8 then .rdReserved100 (off.extractLsb' 2 6)
  else if off.extractLsb' 6 2 == 0b11#2 then .rdReserved0C0 (off.extractLsb' 2 4)
  else if off.extractLsb' 5 3 == 0b101#3 then .rdReserved0A0 (off.extractLsb' 2 3)
  else
    match (off.extractLsb' 2 6).toNat with
    | 0 => .rdId
    | 1 => .rdDecStat
    | 2 => .rdMbStat
    | 3 => .rdReserved00C
    | 4 => .rdSnap0
    | 5 => .rdSnap1
    | 6 => .rdSnap2
    | 7 => .rdSnap3
    | 8 => .rdSnap4
    | 9 => .rdSnap5
    | 10 => .rdSnap6
    | 11 => .rdSnap7
    | 12 => .rdSnap8
    | 13 => .rdSnap9
    | 14 => .rdSnap10
    | 15 => .rdSnap11
    | 16 => .rdSnap12
    | 17 => .rdSnap13
    | 18 => .rdSnap14
    | 19 => .rdStale
    | 20 => .rdArbIn
    | 21 => .rdArbCfg
    | 22 => .rdArbStep
    | 23 => .rdArbStat
    | 24 => .rdLight
    | 25 => .rdLightRgb
    | 26 => .rdLightPos
    | 27 => .rdTick
    | 28 => .rdLedCtrl
    | 29 => .rdLedStat
    | 30 => .rdLedT0h
    | 31 => .rdLedT1h
    | 32 => .rdLedTbit
    | 33 => .rdLedTrst
    | 34 => .rdIrqPend
    | 35 => .rdIrqEn
    | _ => .rdReserved090 (off.extractLsb' 2 2)

/-- CLS = 01, a bus write: a misaligned offset first (R64, R84), then the pixel window (R85), the reserved ranges (R88) and the
register table of R84. -/
def decodeWrite (off : Offset) (v : Word) : Instr :=
  if off.getLsbD 0 then .wrMisalignedOdd (off.extractLsb' 1 11) v
  else if off.getLsbD 1 then .wrMisalignedHalf (off.extractLsb' 2 10) v
  else if off.getLsbD 11 then .wrReserved800 (off.extractLsb' 2 9) v
  else if off.getLsbD 10 then .wrPix (off.extractLsb' 2 8) v
  else if off.getLsbD 9 then .wrReserved200 (off.extractLsb' 2 7) v
  else if off.getLsbD 8 then .wrReserved100 (off.extractLsb' 2 6) v
  else if off.extractLsb' 6 2 == 0b11#2 then .wrReserved0C0 (off.extractLsb' 2 4) v
  else if off.extractLsb' 5 3 == 0b101#3 then .wrReserved0A0 (off.extractLsb' 2 3) v
  else
    match (off.extractLsb' 2 6).toNat with
    | 0 => .wrId v
    | 1 => .wrDecStat v
    | 2 => .wrMbStat v
    | 3 => .wrReserved00C v
    | 4 => .wrSnap0 v
    | 5 => .wrSnap1 v
    | 6 => .wrSnap2 v
    | 7 => .wrSnap3 v
    | 8 => .wrSnap4 v
    | 9 => .wrSnap5 v
    | 10 => .wrSnap6 v
    | 11 => .wrSnap7 v
    | 12 => .wrSnap8 v
    | 13 => .wrSnap9 v
    | 14 => .wrSnap10 v
    | 15 => .wrSnap11 v
    | 16 => .wrSnap12 v
    | 17 => .wrSnap13 v
    | 18 => .wrSnap14 v
    | 19 => .wrStale v
    | 20 => .wrArbIn v
    | 21 => .wrArbCfg v
    | 22 => .wrArbStep v
    | 23 => .wrArbStat v
    | 24 => .wrLight v
    | 25 => .wrLightRgb v
    | 26 => .wrLightPos v
    | 27 => .wrTick v
    | 28 => .wrLedCtrl v
    | 29 => .wrLedStat v
    | 30 => .wrLedT0h v
    | 31 => .wrLedT1h v
    | 32 => .wrLedTbit v
    | 33 => .wrLedTrst v
    | 34 => .wrIrqPend v
    | 35 => .wrIrqEn v
    | _ => .wrReserved090 (off.extractLsb' 2 2) v

/-- CLS = 10, a port event: the four event ids of R83, the rest reserved. -/
def decodeEvent (evt : Offset) (d : Byte) : Instr :=
  if evt.getLsbD 11 then .refusedEvt800 (evt.extractLsb' 0 11)
  else if evt.getLsbD 10 then .refusedEvt400 (evt.extractLsb' 0 10)
  else if evt.getLsbD 9 then .refusedEvt200 (evt.extractLsb' 0 9)
  else if evt.getLsbD 8 then .refusedEvt100 (evt.extractLsb' 0 8)
  else if evt.getLsbD 7 then .refusedEvt080 (evt.extractLsb' 0 7)
  else if evt.getLsbD 6 then .refusedEvt040 (evt.extractLsb' 0 6)
  else if evt.getLsbD 5 then .refusedEvt020 (evt.extractLsb' 0 5)
  else if evt.getLsbD 4 then .refusedEvt010 (evt.extractLsb' 0 4)
  else if evt.getLsbD 3 then .refusedEvt008 (evt.extractLsb' 0 3)
  else if evt.getLsbD 2 then .refusedEvt004 (evt.extractLsb' 0 2)
  else
    match (evt.extractLsb' 0 2).toNat with
    | 0 => .rx d
    | 1 => .tick
    | 2 => .clk
    | _ => .reset

/-- R81-R83: the operation a presented descriptor and its operand lanes name. CLS = 11 is looked at before Z (R82
lists it first; log entry 13). -/
def decode (op : Op) : Instr :=
  let cls := op.desc.extractLsb' 14 2
  let off := op.desc.extractLsb' 0 12
  if cls == 0b11#2 then .refusedCls11 (op.desc.extractLsb' 0 14)
  else if op.desc.getLsbD 13 then .refusedZ1x cls (op.desc.extractLsb' 12 1) off
  else if op.desc.getLsbD 12 then .refusedZ01 cls off
  else if cls == 0b00#2 then decodeRead off
  else if cls == 0b01#2 then decodeWrite off op.wdata
  else decodeEvent off op.rxData

/-- The descriptor and operands of an operation, from the encoding column of the opcode table (R84, R85, R90). A lane
the operation does not use is 0 (log entry 15). -/
def encode : Instr → Op
  | .rdId => { desc := 0x0000#16 }
  | .rdDecStat => { desc := 0x0004#16 }
  | .rdMbStat => { desc := 0x0008#16 }
  | .rdSnap0 => { desc := 0x0010#16 }
  | .rdSnap1 => { desc := 0x0014#16 }
  | .rdSnap2 => { desc := 0x0018#16 }
  | .rdSnap3 => { desc := 0x001C#16 }
  | .rdSnap4 => { desc := 0x0020#16 }
  | .rdSnap5 => { desc := 0x0024#16 }
  | .rdSnap6 => { desc := 0x0028#16 }
  | .rdSnap7 => { desc := 0x002C#16 }
  | .rdSnap8 => { desc := 0x0030#16 }
  | .rdSnap9 => { desc := 0x0034#16 }
  | .rdSnap10 => { desc := 0x0038#16 }
  | .rdSnap11 => { desc := 0x003C#16 }
  | .rdSnap12 => { desc := 0x0040#16 }
  | .rdSnap13 => { desc := 0x0044#16 }
  | .rdSnap14 => { desc := 0x0048#16 }
  | .rdStale => { desc := 0x004C#16 }
  | .rdArbIn => { desc := 0x0050#16 }
  | .rdArbCfg => { desc := 0x0054#16 }
  | .rdArbStep => { desc := 0x0058#16 }
  | .rdArbStat => { desc := 0x005C#16 }
  | .rdLight => { desc := 0x0060#16 }
  | .rdLightRgb => { desc := 0x0064#16 }
  | .rdLightPos => { desc := 0x0068#16 }
  | .rdTick => { desc := 0x006C#16 }
  | .rdLedCtrl => { desc := 0x0070#16 }
  | .rdLedStat => { desc := 0x0074#16 }
  | .rdLedT0h => { desc := 0x0078#16 }
  | .rdLedT1h => { desc := 0x007C#16 }
  | .rdLedTbit => { desc := 0x0080#16 }
  | .rdLedTrst => { desc := 0x0084#16 }
  | .rdIrqPend => { desc := 0x0088#16 }
  | .rdIrqEn => { desc := 0x008C#16 }
  | .wrId v => { desc := 0x4000#16, wdata := v }
  | .wrDecStat v => { desc := 0x4004#16, wdata := v }
  | .wrMbStat v => { desc := 0x4008#16, wdata := v }
  | .wrSnap0 v => { desc := 0x4010#16, wdata := v }
  | .wrSnap1 v => { desc := 0x4014#16, wdata := v }
  | .wrSnap2 v => { desc := 0x4018#16, wdata := v }
  | .wrSnap3 v => { desc := 0x401C#16, wdata := v }
  | .wrSnap4 v => { desc := 0x4020#16, wdata := v }
  | .wrSnap5 v => { desc := 0x4024#16, wdata := v }
  | .wrSnap6 v => { desc := 0x4028#16, wdata := v }
  | .wrSnap7 v => { desc := 0x402C#16, wdata := v }
  | .wrSnap8 v => { desc := 0x4030#16, wdata := v }
  | .wrSnap9 v => { desc := 0x4034#16, wdata := v }
  | .wrSnap10 v => { desc := 0x4038#16, wdata := v }
  | .wrSnap11 v => { desc := 0x403C#16, wdata := v }
  | .wrSnap12 v => { desc := 0x4040#16, wdata := v }
  | .wrSnap13 v => { desc := 0x4044#16, wdata := v }
  | .wrSnap14 v => { desc := 0x4048#16, wdata := v }
  | .wrStale v => { desc := 0x404C#16, wdata := v }
  | .wrArbIn v => { desc := 0x4050#16, wdata := v }
  | .wrArbCfg v => { desc := 0x4054#16, wdata := v }
  | .wrArbStep v => { desc := 0x4058#16, wdata := v }
  | .wrArbStat v => { desc := 0x405C#16, wdata := v }
  | .wrLight v => { desc := 0x4060#16, wdata := v }
  | .wrLightRgb v => { desc := 0x4064#16, wdata := v }
  | .wrLightPos v => { desc := 0x4068#16, wdata := v }
  | .wrTick v => { desc := 0x406C#16, wdata := v }
  | .wrLedCtrl v => { desc := 0x4070#16, wdata := v }
  | .wrLedStat v => { desc := 0x4074#16, wdata := v }
  | .wrLedT0h v => { desc := 0x4078#16, wdata := v }
  | .wrLedT1h v => { desc := 0x407C#16, wdata := v }
  | .wrLedTbit v => { desc := 0x4080#16, wdata := v }
  | .wrLedTrst v => { desc := 0x4084#16, wdata := v }
  | .wrIrqPend v => { desc := 0x4088#16, wdata := v }
  | .wrIrqEn v => { desc := 0x408C#16, wdata := v }
  | .rdPix i => { desc := 0b000001#6 ++ i ++ 0b00#2 }
  | .wrPix i v => { desc := 0b010001#6 ++ i ++ 0b00#2, wdata := v }
  | .rdReserved00C => { desc := 0x000C#16 }
  | .wrReserved00C v => { desc := 0x400C#16, wdata := v }
  | .rdReserved090 x => { desc := 0b000000001001#12 ++ x ++ 0b00#2 }
  | .wrReserved090 x v => { desc := 0b010000001001#12 ++ x ++ 0b00#2, wdata := v }
  | .rdReserved0A0 x => { desc := 0b00000000101#11 ++ x ++ 0b00#2 }
  | .wrReserved0A0 x v => { desc := 0b01000000101#11 ++ x ++ 0b00#2, wdata := v }
  | .rdReserved0C0 x => { desc := 0b0000000011#10 ++ x ++ 0b00#2 }
  | .wrReserved0C0 x v => { desc := 0b0100000011#10 ++ x ++ 0b00#2, wdata := v }
  | .rdReserved100 x => { desc := 0b00000001#8 ++ x ++ 0b00#2 }
  | .wrReserved100 x v => { desc := 0b01000001#8 ++ x ++ 0b00#2, wdata := v }
  | .rdReserved200 x => { desc := 0b0000001#7 ++ x ++ 0b00#2 }
  | .wrReserved200 x v => { desc := 0b0100001#7 ++ x ++ 0b00#2, wdata := v }
  | .rdReserved800 x => { desc := 0b00001#5 ++ x ++ 0b00#2 }
  | .wrReserved800 x v => { desc := 0b01001#5 ++ x ++ 0b00#2, wdata := v }
  | .rdMisalignedOdd x => { desc := 0b0000#4 ++ x ++ 0b1#1 }
  | .rdMisalignedHalf x => { desc := 0b0000#4 ++ x ++ 0b10#2 }
  | .wrMisalignedOdd x v => { desc := 0b0100#4 ++ x ++ 0b1#1, wdata := v }
  | .wrMisalignedHalf x v => { desc := 0b0100#4 ++ x ++ 0b10#2, wdata := v }
  | .rx d => { desc := 0x8000#16, rxData := d }
  | .tick => { desc := 0x8001#16 }
  | .clk => { desc := 0x8002#16 }
  | .reset => { desc := 0x8003#16 }
  | .refusedEvt004 x => { desc := 0b10000000000001#14 ++ x }
  | .refusedEvt008 x => { desc := 0b1000000000001#13 ++ x }
  | .refusedEvt010 x => { desc := 0b100000000001#12 ++ x }
  | .refusedEvt020 x => { desc := 0b10000000001#11 ++ x }
  | .refusedEvt040 x => { desc := 0b1000000001#10 ++ x }
  | .refusedEvt080 x => { desc := 0b100000001#9 ++ x }
  | .refusedEvt100 x => { desc := 0b10000001#8 ++ x }
  | .refusedEvt200 x => { desc := 0b1000001#7 ++ x }
  | .refusedEvt400 x => { desc := 0b100001#6 ++ x }
  | .refusedEvt800 x => { desc := 0b10001#5 ++ x }
  | .refusedCls11 x => { desc := 0b11#2 ++ x }
  | .refusedZ01 cls off => { desc := cls ++ 0b01#2 ++ off }
  | .refusedZ1x cls z0 off => { desc := cls ++ 0b1#1 ++ z0 ++ off }

/-- The presented operation whose bits, numbered as the opcode table numbers them, are w: the descriptor in bits
15..0, and above it the operand the class takes (write data, or the received byte), every bit above nbits being 0. -/
def Op.ofTableWord (nbits w : Nat) : Op :=
  let bits := w % 2 ^ nbits
  { desc := BitVec.ofNat 16 bits, wdata := BitVec.ofNat 32 (bits / 2 ^ 16), rxData := BitVec.ofNat 8 (bits / 2 ^ 16) }

/-- The instruction the decoder reads from the bits w of an opcode-table row. The decoder is total: a reserved
descriptor is answered by the table's own `refused` row. -/
def decodeTableWord (nbits w : Nat) : Option Instr :=
  some (decode (Op.ofTableWord nbits w))

end Sys2Proof
end

