-- ==== Sys2Proof/Machine/Reserved.lean ====
section
/-! DEFINITION. Reserved and misaligned offsets, read as zero and writes ignored (20_memory.md R64; 43_control_registers.md
R237, R238), and the descriptors that name no operation, which the model refuses (30_encoding.md R82, R83; X1). -/

namespace Sys2Proof.Machine

/-- R237: RD reserved 0x00C-0x00C. -/
def execRdReserved00C (s : State) : Host.Outcome State Fault Refusal :=
  .next s.ignoreRead

/-- R238: WR reserved 0x00C-0x00C. -/
def execWrReserved00C (_v : Word) (s : State) : Host.Outcome State Fault Refusal :=
  .next s.ignoreWrite

/-- R237: RD reserved 0x090-0x09C. -/
def execRdReserved090 (_x : BitVec 2) (s : State) : Host.Outcome State Fault Refusal :=
  .next s.ignoreRead

/-- R238: WR reserved 0x090-0x09C. -/
def execWrReserved090 (_x : BitVec 2) (_v : Word) (s : State) : Host.Outcome State Fault Refusal :=
  .next s.ignoreWrite

/-- R237: RD reserved 0x0A0-0x0BC. -/
def execRdReserved0A0 (_x : BitVec 3) (s : State) : Host.Outcome State Fault Refusal :=
  .next s.ignoreRead

/-- R238: WR reserved 0x0A0-0x0BC. -/
def execWrReserved0A0 (_x : BitVec 3) (_v : Word) (s : State) : Host.Outcome State Fault Refusal :=
  .next s.ignoreWrite

/-- R237: RD reserved 0x0C0-0x0FC. -/
def execRdReserved0C0 (_x : BitVec 4) (s : State) : Host.Outcome State Fault Refusal :=
  .next s.ignoreRead

/-- R238: WR reserved 0x0C0-0x0FC. -/
def execWrReserved0C0 (_x : BitVec 4) (_v : Word) (s : State) : Host.Outcome State Fault Refusal :=
  .next s.ignoreWrite

/-- R237: RD reserved 0x100-0x1FC. -/
def execRdReserved100 (_x : BitVec 6) (s : State) : Host.Outcome State Fault Refusal :=
  .next s.ignoreRead

/-- R238: WR reserved 0x100-0x1FC. -/
def execWrReserved100 (_x : BitVec 6) (_v : Word) (s : State) : Host.Outcome State Fault Refusal :=
  .next s.ignoreWrite

/-- R237: RD reserved 0x200-0x3FC. -/
def execRdReserved200 (_x : BitVec 7) (s : State) : Host.Outcome State Fault Refusal :=
  .next s.ignoreRead

/-- R238: WR reserved 0x200-0x3FC. -/
def execWrReserved200 (_x : BitVec 7) (_v : Word) (s : State) : Host.Outcome State Fault Refusal :=
  .next s.ignoreWrite

/-- R237: RD reserved 0x800-0xFFC. -/
def execRdReserved800 (_x : BitVec 9) (s : State) : Host.Outcome State Fault Refusal :=
  .next s.ignoreRead

/-- R238: WR reserved 0x800-0xFFC. -/
def execWrReserved800 (_x : BitVec 9) (_v : Word) (s : State) : Host.Outcome State Fault Refusal :=
  .next s.ignoreWrite

/-- R64: RD misaligned (OFF[0]=1). -/
def execRdMisalignedOdd (_x : BitVec 11) (s : State) : Host.Outcome State Fault Refusal :=
  .next s.ignoreRead

/-- R64: RD misaligned (OFF[1:0]=10). -/
def execRdMisalignedHalf (_x : BitVec 10) (s : State) : Host.Outcome State Fault Refusal :=
  .next s.ignoreRead

/-- R64: WR misaligned (OFF[0]=1). -/
def execWrMisalignedOdd (_x : BitVec 11) (_v : Word) (s : State) : Host.Outcome State Fault Refusal :=
  .next s.ignoreWrite

/-- R64: WR misaligned (OFF[1:0]=10). -/
def execWrMisalignedHalf (_x : BitVec 10) (_v : Word) (s : State) : Host.Outcome State Fault Refusal :=
  .next s.ignoreWrite

/-- R82, R83, X1: refused EVT 0x004-0x007. -/
def execRefusedEvt004 (x : BitVec 2) (_s : State) : Host.Outcome State Fault Refusal :=
  .refused (.descReserved (encode (.refusedEvt004 x)).desc)

/-- R82, R83, X1: refused EVT 0x008-0x00F. -/
def execRefusedEvt008 (x : BitVec 3) (_s : State) : Host.Outcome State Fault Refusal :=
  .refused (.descReserved (encode (.refusedEvt008 x)).desc)

/-- R82, R83, X1: refused EVT 0x010-0x01F. -/
def execRefusedEvt010 (x : BitVec 4) (_s : State) : Host.Outcome State Fault Refusal :=
  .refused (.descReserved (encode (.refusedEvt010 x)).desc)

/-- R82, R83, X1: refused EVT 0x020-0x03F. -/
def execRefusedEvt020 (x : BitVec 5) (_s : State) : Host.Outcome State Fault Refusal :=
  .refused (.descReserved (encode (.refusedEvt020 x)).desc)

/-- R82, R83, X1: refused EVT 0x040-0x07F. -/
def execRefusedEvt040 (x : BitVec 6) (_s : State) : Host.Outcome State Fault Refusal :=
  .refused (.descReserved (encode (.refusedEvt040 x)).desc)

/-- R82, R83, X1: refused EVT 0x080-0x0FF. -/
def execRefusedEvt080 (x : BitVec 7) (_s : State) : Host.Outcome State Fault Refusal :=
  .refused (.descReserved (encode (.refusedEvt080 x)).desc)

/-- R82, R83, X1: refused EVT 0x100-0x1FF. -/
def execRefusedEvt100 (x : BitVec 8) (_s : State) : Host.Outcome State Fault Refusal :=
  .refused (.descReserved (encode (.refusedEvt100 x)).desc)

/-- R82, R83, X1: refused EVT 0x200-0x3FF. -/
def execRefusedEvt200 (x : BitVec 9) (_s : State) : Host.Outcome State Fault Refusal :=
  .refused (.descReserved (encode (.refusedEvt200 x)).desc)

/-- R82, R83, X1: refused EVT 0x400-0x7FF. -/
def execRefusedEvt400 (x : BitVec 10) (_s : State) : Host.Outcome State Fault Refusal :=
  .refused (.descReserved (encode (.refusedEvt400 x)).desc)

/-- R82, R83, X1: refused EVT 0x800-0xFFF. -/
def execRefusedEvt800 (x : BitVec 11) (_s : State) : Host.Outcome State Fault Refusal :=
  .refused (.descReserved (encode (.refusedEvt800 x)).desc)

/-- R82, R83, X1: refused CLS=11. -/
def execRefusedCls11 (x : BitVec 14) (_s : State) : Host.Outcome State Fault Refusal :=
  .refused (.descReserved (encode (.refusedCls11 x)).desc)

/-- R82, R83, X1: refused Z=01. -/
def execRefusedZ01 (cls : BitVec 2) (off : BitVec 12) (_s : State) : Host.Outcome State Fault Refusal :=
  .refused (.descReserved (encode (.refusedZ01 cls off)).desc)

/-- R82, R83, X1: refused Z=1x. -/
def execRefusedZ1x (cls : BitVec 2) (z0 : BitVec 1) (off : BitVec 12) (_s : State) : Host.Outcome State Fault Refusal :=
  .refused (.descReserved (encode (.refusedZ1x cls z0 off)).desc)

end Sys2Proof.Machine
end

