-- ==== Sys2Proof/Machine/Dispatch.lean ====
section
/-! DEFINITION. One arm for each operation of the opcode table, each a direct call of that operation's meaning. -/

namespace Sys2Proof.Machine

def exec (i : Instr) (s : State) : Host.Outcome State Fault Refusal :=
  match i with
  | .rdId => Sys2Proof.Machine.execRdId s
  | .rdDecStat => Sys2Proof.Machine.execRdDecStat s
  | .rdMbStat => Sys2Proof.Machine.execRdMbStat s
  | .rdSnap0 => Sys2Proof.Machine.execRdSnap0 s
  | .rdSnap1 => Sys2Proof.Machine.execRdSnap1 s
  | .rdSnap2 => Sys2Proof.Machine.execRdSnap2 s
  | .rdSnap3 => Sys2Proof.Machine.execRdSnap3 s
  | .rdSnap4 => Sys2Proof.Machine.execRdSnap4 s
  | .rdSnap5 => Sys2Proof.Machine.execRdSnap5 s
  | .rdSnap6 => Sys2Proof.Machine.execRdSnap6 s
  | .rdSnap7 => Sys2Proof.Machine.execRdSnap7 s
  | .rdSnap8 => Sys2Proof.Machine.execRdSnap8 s
  | .rdSnap9 => Sys2Proof.Machine.execRdSnap9 s
  | .rdSnap10 => Sys2Proof.Machine.execRdSnap10 s
  | .rdSnap11 => Sys2Proof.Machine.execRdSnap11 s
  | .rdSnap12 => Sys2Proof.Machine.execRdSnap12 s
  | .rdSnap13 => Sys2Proof.Machine.execRdSnap13 s
  | .rdSnap14 => Sys2Proof.Machine.execRdSnap14 s
  | .rdStale => Sys2Proof.Machine.execRdStale s
  | .rdArbIn => Sys2Proof.Machine.execRdArbIn s
  | .rdArbCfg => Sys2Proof.Machine.execRdArbCfg s
  | .rdArbStep => Sys2Proof.Machine.execRdArbStep s
  | .rdArbStat => Sys2Proof.Machine.execRdArbStat s
  | .rdLight => Sys2Proof.Machine.execRdLight s
  | .rdLightRgb => Sys2Proof.Machine.execRdLightRgb s
  | .rdLightPos => Sys2Proof.Machine.execRdLightPos s
  | .rdTick => Sys2Proof.Machine.execRdTick s
  | .rdLedCtrl => Sys2Proof.Machine.execRdLedCtrl s
  | .rdLedStat => Sys2Proof.Machine.execRdLedStat s
  | .rdLedT0h => Sys2Proof.Machine.execRdLedT0h s
  | .rdLedT1h => Sys2Proof.Machine.execRdLedT1h s
  | .rdLedTbit => Sys2Proof.Machine.execRdLedTbit s
  | .rdLedTrst => Sys2Proof.Machine.execRdLedTrst s
  | .rdIrqPend => Sys2Proof.Machine.execRdIrqPend s
  | .rdIrqEn => Sys2Proof.Machine.execRdIrqEn s
  | .wrId v => Sys2Proof.Machine.execWrId v s
  | .wrDecStat v => Sys2Proof.Machine.execWrDecStat v s
  | .wrMbStat v => Sys2Proof.Machine.execWrMbStat v s
  | .wrSnap0 v => Sys2Proof.Machine.execWrSnap0 v s
  | .wrSnap1 v => Sys2Proof.Machine.execWrSnap1 v s
  | .wrSnap2 v => Sys2Proof.Machine.execWrSnap2 v s
  | .wrSnap3 v => Sys2Proof.Machine.execWrSnap3 v s
  | .wrSnap4 v => Sys2Proof.Machine.execWrSnap4 v s
  | .wrSnap5 v => Sys2Proof.Machine.execWrSnap5 v s
  | .wrSnap6 v => Sys2Proof.Machine.execWrSnap6 v s
  | .wrSnap7 v => Sys2Proof.Machine.execWrSnap7 v s
  | .wrSnap8 v => Sys2Proof.Machine.execWrSnap8 v s
  | .wrSnap9 v => Sys2Proof.Machine.execWrSnap9 v s
  | .wrSnap10 v => Sys2Proof.Machine.execWrSnap10 v s
  | .wrSnap11 v => Sys2Proof.Machine.execWrSnap11 v s
  | .wrSnap12 v => Sys2Proof.Machine.execWrSnap12 v s
  | .wrSnap13 v => Sys2Proof.Machine.execWrSnap13 v s
  | .wrSnap14 v => Sys2Proof.Machine.execWrSnap14 v s
  | .wrStale v => Sys2Proof.Machine.execWrStale v s
  | .wrArbIn v => Sys2Proof.Machine.execWrArbIn v s
  | .wrArbCfg v => Sys2Proof.Machine.execWrArbCfg v s
  | .wrArbStep v => Sys2Proof.Machine.execWrArbStep v s
  | .wrArbStat v => Sys2Proof.Machine.execWrArbStat v s
  | .wrLight v => Sys2Proof.Machine.execWrLight v s
  | .wrLightRgb v => Sys2Proof.Machine.execWrLightRgb v s
  | .wrLightPos v => Sys2Proof.Machine.execWrLightPos v s
  | .wrTick v => Sys2Proof.Machine.execWrTick v s
  | .wrLedCtrl v => Sys2Proof.Machine.execWrLedCtrl v s
  | .wrLedStat v => Sys2Proof.Machine.execWrLedStat v s
  | .wrLedT0h v => Sys2Proof.Machine.execWrLedT0h v s
  | .wrLedT1h v => Sys2Proof.Machine.execWrLedT1h v s
  | .wrLedTbit v => Sys2Proof.Machine.execWrLedTbit v s
  | .wrLedTrst v => Sys2Proof.Machine.execWrLedTrst v s
  | .wrIrqPend v => Sys2Proof.Machine.execWrIrqPend v s
  | .wrIrqEn v => Sys2Proof.Machine.execWrIrqEn v s
  | .rdPix n => Sys2Proof.Machine.execRdPix n s
  | .wrPix n v => Sys2Proof.Machine.execWrPix n v s
  | .rdReserved00C => Sys2Proof.Machine.execRdReserved00C s
  | .wrReserved00C v => Sys2Proof.Machine.execWrReserved00C v s
  | .rdReserved090 x => Sys2Proof.Machine.execRdReserved090 x s
  | .wrReserved090 x v => Sys2Proof.Machine.execWrReserved090 x v s
  | .rdReserved0A0 x => Sys2Proof.Machine.execRdReserved0A0 x s
  | .wrReserved0A0 x v => Sys2Proof.Machine.execWrReserved0A0 x v s
  | .rdReserved0C0 x => Sys2Proof.Machine.execRdReserved0C0 x s
  | .wrReserved0C0 x v => Sys2Proof.Machine.execWrReserved0C0 x v s
  | .rdReserved100 x => Sys2Proof.Machine.execRdReserved100 x s
  | .wrReserved100 x v => Sys2Proof.Machine.execWrReserved100 x v s
  | .rdReserved200 x => Sys2Proof.Machine.execRdReserved200 x s
  | .wrReserved200 x v => Sys2Proof.Machine.execWrReserved200 x v s
  | .rdReserved800 x => Sys2Proof.Machine.execRdReserved800 x s
  | .wrReserved800 x v => Sys2Proof.Machine.execWrReserved800 x v s
  | .rdMisalignedOdd x => Sys2Proof.Machine.execRdMisalignedOdd x s
  | .rdMisalignedHalf x => Sys2Proof.Machine.execRdMisalignedHalf x s
  | .wrMisalignedOdd x v => Sys2Proof.Machine.execWrMisalignedOdd x v s
  | .wrMisalignedHalf x v => Sys2Proof.Machine.execWrMisalignedHalf x v s
  | .rx d => Sys2Proof.Machine.execRx d s
  | .tick => Sys2Proof.Machine.execTick s
  | .clk => Sys2Proof.Machine.execClk s
  | .reset => Sys2Proof.Machine.execReset s
  | .refusedEvt004 x => Sys2Proof.Machine.execRefusedEvt004 x s
  | .refusedEvt008 x => Sys2Proof.Machine.execRefusedEvt008 x s
  | .refusedEvt010 x => Sys2Proof.Machine.execRefusedEvt010 x s
  | .refusedEvt020 x => Sys2Proof.Machine.execRefusedEvt020 x s
  | .refusedEvt040 x => Sys2Proof.Machine.execRefusedEvt040 x s
  | .refusedEvt080 x => Sys2Proof.Machine.execRefusedEvt080 x s
  | .refusedEvt100 x => Sys2Proof.Machine.execRefusedEvt100 x s
  | .refusedEvt200 x => Sys2Proof.Machine.execRefusedEvt200 x s
  | .refusedEvt400 x => Sys2Proof.Machine.execRefusedEvt400 x s
  | .refusedEvt800 x => Sys2Proof.Machine.execRefusedEvt800 x s
  | .refusedCls11 x => Sys2Proof.Machine.execRefusedCls11 x s
  | .refusedZ01 cls off => Sys2Proof.Machine.execRefusedZ01 cls off s
  | .refusedZ1x cls z0 off => Sys2Proof.Machine.execRefusedZ1x cls z0 off s

end Sys2Proof.Machine
end

