-- ==== Sys2Proof/Machine/Step.lean ====
section
/-! DEFINITION. One step of the machine. The block has no program counter and fetches nothing (10_state.md R22,
20_memory.md R75): the environment presents operations, in one total order (R71), and a step runs the next one. -/

namespace Sys2Proof.Machine

/-- Runs the next presented operation. With none presented the block is idle and keeps all its state (R263). -/
def step (s : State) : Host.Outcome State Fault Refusal :=
  match s.pending with
  | [] => .next s
  | op :: rest => exec (decode op) (s.startOp rest)

/-- s with the operation whose table bits are w presented next (log entry 1). -/
def State.withFetchWord (s : State) (nbits w : Nat) : State :=
  { s with pending := Op.ofTableWord nbits w :: s.pending }

end Sys2Proof.Machine
end

