-- ==== Sys2Proof/Machine/Cycle.lean ====
section
/-! DEFINITION. One hardware clock cycle as the operations it applies (60_exceptions.md R255, 92_eei_decisions.md
D5, 70_reset_and_hazards.md R271). The operations themselves allow any interleaving (R264, D31); a chip's cycle is
one of them. -/

namespace Sys2Proof.Machine

/-- One bus access as the bus port presents it (R23). -/
structure BusAccess where
  write : Bool
  addr  : Offset
  wdata : Word
deriving DecidableEq, Repr

/-- The input ports in one cycle (R23): `rst_n`, the bus access if bus_valid, the received byte if rx_valid, and
`tick_i`. -/
structure PortInputs where
  rstN : Bool
  bus  : Option BusAccess
  rx   : Option Byte
  tick : Bool
deriving DecidableEq, Repr

/-- R81: the descriptor of a bus access. -/
def BusAccess.op (b : BusAccess) : Op where
  desc := (if b.write then 0b0100#4 else 0b0000#4) ++ b.addr
  wdata := b.wdata

/-- R90: the RX event. -/
def rxOp (d : Byte) : Op where
  desc := 0x8000#16
  rxData := d

/-- R90: the TICK event. -/
def tickOp : Op where
  desc := 0x8001#16

/-- R90: the CLK event. -/
def clkOp : Op where
  desc := 0x8002#16

/-- R90: the RESET event. -/
def resetOp : Op where
  desc := 0x8003#16

/-- Whether a bus access is a read of ID, the one register that reads its value during reset too (R25, R231). -/
def BusAccess.readsId (b : BusAccess) : Bool := !b.write && b.addr == 0x000#12

/-- R271: the operations of a cycle with rst_n = 0. The block resets and ignores every bus access, RX byte and TICK
pulse; a read of ID still returns its constant (R231: "the same value in every state, including during reset"), and
changes no state (log entry 12). -/
def PortInputs.resetOps (p : PortInputs) : List Op :=
  resetOp :: ((p.bus.filter BusAccess.readsId).map BusAccess.op).toList

/-- R255, D5: the operations of one cycle in their order: the bus access, the RX byte, the TICK pulse, the encoder's
cycle; with rst_n = 0 those of a reset cycle. -/
def PortInputs.ops (p : PortInputs) : List Op :=
  if p.rstN then
    (p.bus.map BusAccess.op).toList ++ (p.rx.map rxOp).toList ++ (if p.tick then [tickOp] else []) ++ [clkOp]
  else p.resetOps

/-- The operations of one cycle presented after those already pending. -/
def State.presentCycle (s : State) (p : PortInputs) : State := { s with pending := s.pending ++ p.ops }

end Sys2Proof.Machine
end

