-- ==== Sys2Proof/Safety.lean ====
section
/-! DEFINITION. The terms claims use: the invariants of the machine, which accesses are ignored (the premise of
R285), and the host's duties (70_reset_and_hazards.md R280-R288), which the block does not enforce. -/

namespace Sys2Proof.Machine

/-! ### Invariants -/

/-- R101, R126: DCNT agrees with DSTATE, and the sync bytes received so far are in the buffer. -/
abbrev DecoderInv (s : State) : Prop :=
  (s.dstate = .awaitSync1 → s.dcnt = 0) ∧
  (s.dstate = .awaitSync2 → s.dcnt = 1 ∧ s.dbuf[0] = 0x42#8) ∧
  (s.dstate = .collecting → 2 ≤ s.dcnt.val ∧ s.dbuf[0] = 0x42#8 ∧ s.dbuf[1] = 0x4D#8)

/-- R30, R31: the reserved bits of the input registers are 0. -/
abbrev InputsInv (s : State) : Prop :=
  s.arbIn &&& ~~~arbInMask = 0 ∧ s.arbCfg &&& ~~~arbCfgMask = 0

/-- R33: the status that goes with a cause (R149). -/
abbrev StatusFitsCause (r : Word) : Prop :=
  (statCause r = 0 → statStatus r = 0) ∧ (statCause r = 1 → statStatus r = 3) ∧ (statCause r = 2 → statStatus r = 1) ∧
  (statCause r = 3 → statStatus r = 2) ∧ (4 ≤ (statCause r).toNat → statStatus r = 3)

/-- R33: the reserved bits of ARB_STAT are 0, CAUSE 7 never occurs, STATUS goes with CAUSE, DUR is 0..50, an alarm is
being counted exactly while ALARM_ANY holds (R151), and SOUND needs an alarm. -/
abbrev StatusInv (s : State) : Prop :=
  s.arbStat &&& 0xFF00CC8C#32 = 0 ∧ statCause s.arbStat ≠ 7 ∧ StatusFitsCause s.arbStat ∧
  (statDur s.arbStat).toNat ≤ 50 ∧ (statAlarmAny s.arbStat = true ↔ 1 ≤ (statDur s.arbStat).toNat) ∧
  (statSound s.arbStat = true → statAlarmAny s.arbStat = true)

/-- R34-R36: the reserved bits of the light registers are 0; PERIOD is 1, 2, 5 or 10 for FLASH and 0 otherwise; OFF is
unlit, SOLID and MOVING are lit; POS is a pixel of the strip, and 0 unless MOVING. -/
abbrev LightInv (s : State) : Prop :=
  s.light &&& 0xFFFF00EC#32 = 0 ∧ s.lightRgb &&& 0xFF000000#32 = 0 ∧ s.lightPos &&& 0xFFFFFF00#32 = 0 ∧
  (lightKind s.light = 2 → lightPeriod s.light ∈ [1, 2, 5, 10]) ∧ (lightKind s.light ≠ 2 → lightPeriod s.light = 0) ∧
  (lightKind s.light = 0 → lightLit s.light = false) ∧
  (lightKind s.light = 1 ∨ lightKind s.light = 3 → lightLit s.light = true) ∧
  (lightPosIndex s.lightPos).toNat < s.cfg.nPix ∧ (lightKind s.light ≠ 3 → s.lightPos = 0)

/-- R50, R191, R196, R198: while a burst runs, the latched timing is valid and is what the timing registers hold,
the latched bits are 24·N_PIX, and LT counts the cycles before the end; with no burst LT is 0. -/
abbrev EncoderInv (s : State) : Prop :=
  (s.lbusy = true →
    timingOk s.lt0h s.lt1h s.ltbit s.ltrst = true ∧
    s.lt0h = s.ledT0h ∧ s.lt1h = s.ledT1h ∧ s.ltbit = s.ledTbit ∧ s.ltrst = s.ledTrst ∧
    s.lbits.length = burstBits s.cfg.nPix ∧ s.lt.toNat < burstTotal s.cfg.nPix s.ltbit s.ltrst) ∧
  (s.lbusy = false → s.lt = 0)

/-- The invariant of the machine: a parameter choice of R7, a pixel RAM of N_PIX words, and each unit's part. -/
structure Inv (s : State) : Prop where
  config : s.cfg.wf
  memory : Memory.wf s.cfg.nPix s.pix
  decoder : DecoderInv s
  mailbox : s.ovr = true → s.fresh = true
  staleness : s.stale = staleFlag s.cfg.staleCmp s.scnt
  inputs : InputsInv s
  status : StatusInv s
  lights : LightInv s
  encoder : EncoderInv s

/-- The sum of the two bytes of a 16-bit word. -/
def byteSum (h : Half) : Nat := (h.extractLsb' 8 8).toNat + (h.extractLsb' 0 8).toNat

/-- R106, R125: word 14 of a record is the sum of the frame's bytes 0 to 29: the sync bytes and words 0 to 13. -/
def RecordOk (r : Vector Half 15) : Prop :=
  r[14].toNat = 0x42 + 0x4D + ((r.toList.take 14).map byteSum).sum

/-- R125: the snapshot and the mailbox each hold either a record whose last word is its checksum or, before any
record, zeros; and a fresh mailbox holds a record. -/
structure RecordInv (s : State) : Prop where
  decoder : DecoderInv s
  snapshot : RecordOk s.snap ∨ s.snap = Vector.replicate 15 0
  mailbox : RecordOk s.mb ∨ (s.mb = Vector.replicate 15 0 ∧ s.fresh = false)

/-! ### Ignored accesses (R285) -/

/-- Whether an operation is an access that the block ignores (X7): the claim about a host program that makes none is
the one another build of the block would share (R285, U10). A read past the strip counts, on either reading of whether
it signals X7 (log entry 10). -/
def Instr.ignored (nPix : Nat) : Instr → Bool
  | .rdId => false
  | .rdDecStat => false
  | .rdMbStat => false
  | .rdSnap0 => false
  | .rdSnap1 => false
  | .rdSnap2 => false
  | .rdSnap3 => false
  | .rdSnap4 => false
  | .rdSnap5 => false
  | .rdSnap6 => false
  | .rdSnap7 => false
  | .rdSnap8 => false
  | .rdSnap9 => false
  | .rdSnap10 => false
  | .rdSnap11 => false
  | .rdSnap12 => false
  | .rdSnap13 => false
  | .rdSnap14 => false
  | .rdStale => false
  | .rdArbIn => false
  | .rdArbCfg => false
  | .rdArbStep => false
  | .rdArbStat => false
  | .rdLight => false
  | .rdLightRgb => false
  | .rdLightPos => false
  | .rdTick => false
  | .rdLedCtrl => false
  | .rdLedStat => false
  | .rdLedT0h => false
  | .rdLedT1h => false
  | .rdLedTbit => false
  | .rdLedTrst => false
  | .rdIrqPend => false
  | .rdIrqEn => false
  | .wrId _ => true
  | .wrDecStat _ => true
  | .wrMbStat _ => true
  | .wrSnap0 _ => true
  | .wrSnap1 _ => true
  | .wrSnap2 _ => true
  | .wrSnap3 _ => true
  | .wrSnap4 _ => true
  | .wrSnap5 _ => true
  | .wrSnap6 _ => true
  | .wrSnap7 _ => true
  | .wrSnap8 _ => true
  | .wrSnap9 _ => true
  | .wrSnap10 _ => true
  | .wrSnap11 _ => true
  | .wrSnap12 _ => true
  | .wrSnap13 _ => true
  | .wrSnap14 _ => true
  | .wrStale _ => true
  | .wrArbIn _ => false
  | .wrArbCfg _ => false
  | .wrArbStep _ => false
  | .wrArbStat _ => true
  | .wrLight _ => true
  | .wrLightRgb _ => true
  | .wrLightPos _ => true
  | .wrTick _ => true
  | .wrLedCtrl _ => false
  | .wrLedStat _ => false
  | .wrLedT0h _ => false
  | .wrLedT1h _ => false
  | .wrLedTbit _ => false
  | .wrLedTrst _ => false
  | .wrIrqPend _ => false
  | .wrIrqEn _ => false
  | .rdPix i => decide (nPix ≤ i.toNat)
  | .wrPix i _ => decide (nPix ≤ i.toNat)
  | .rdReserved00C => true
  | .wrReserved00C _ => true
  | .rdReserved090 _ => true
  | .wrReserved090 _ _ => true
  | .rdReserved0A0 _ => true
  | .wrReserved0A0 _ _ => true
  | .rdReserved0C0 _ => true
  | .wrReserved0C0 _ _ => true
  | .rdReserved100 _ => true
  | .wrReserved100 _ _ => true
  | .rdReserved200 _ => true
  | .wrReserved200 _ _ => true
  | .rdReserved800 _ => true
  | .wrReserved800 _ _ => true
  | .rdMisalignedOdd _ => true
  | .rdMisalignedHalf _ => true
  | .wrMisalignedOdd _ _ => true
  | .wrMisalignedHalf _ _ => true
  | .rx _ => false
  | .tick => false
  | .clk => false
  | .reset => false
  | .refusedEvt004 _ => false
  | .refusedEvt008 _ => false
  | .refusedEvt010 _ => false
  | .refusedEvt020 _ => false
  | .refusedEvt040 _ => false
  | .refusedEvt080 _ => false
  | .refusedEvt100 _ => false
  | .refusedEvt200 _ => false
  | .refusedEvt400 _ => false
  | .refusedEvt800 _ => false
  | .refusedCls11 _ => false
  | .refusedZ01 _ _ => false
  | .refusedZ1x _ _ _ => false

/-- R285: the premise that the operations a host presents make no ignored access. -/
def NoIgnoredAccess (s : State) : Prop :=
  ∀ op ∈ s.pending, Instr.ignored s.cfg.nPix (decode op) = false

/-! ### Runs -/

/-- Runs operations one after another, stopping at the first that does not answer a next state: the order the model
gives them is the order the block applies them (R71). -/
def runInstrs : List Instr → State → Host.Outcome State Fault Refusal
  | [], s => .next s
  | i :: is, s =>
    match exec i s with
    | .next t => runInstrs is t
    | .fault r => .fault r
    | .refused r => .refused r

/-! ### The host's duties -/

/-- R282: no burst is running, so a refresh request, a timing write or a pixel write is not dropped. -/
abbrev EncoderIdle (s : State) : Prop := s.lbusy = false

/-- R284: an MB_STAT read would take a record now. -/
abbrev RecordReady (s : State) : Prop := s.fresh = true

/-- R286: LED_TRST ≥ ⌈60 µs · F_CLK⌉, stated in µs·Hz. -/
abbrev ResetIntervalMet (s : State) : Prop := 60 * s.cfg.fClk ≤ 1000000 * s.ledTrst.toNat

/-- R289: the time of n cycles in whole µs. That it is rounded down, and that it is 0 for F_CLK = 0, which R7 does not
rule out and where R289's quotient has no value, are the model's choices (log entries 3, 18). -/
def cyclesToMicros (c : Config) (n : Nat) : Nat := 1000000 * n / c.fClk

end Sys2Proof.Machine
end

