-- ==== Sys2Proof/Certificates/Slice0/Obligations.lean ====
section
/-! DEFINITION. What the provers are asked to prove of the model. Each statement says, in terms of its registers' bits
and of plain numbers, what a rule of spec/ says; s is the state before, t the state after. A statement of the form
"exec i s = .next (s with ...)" is also the operation's frame: nothing it does not name changes. Two fields in these
equations are the model's own way to hold what the rules say of an operation: out its output (R14; log entry 7), conds
the conditions it signals (R13; log entry 8). -/

open Sys2Proof Sys2Proof.Machine

/-! ### Decoding and stepping -/

/-- R81-R85: no bit of any operation is lost between the encoder and the decoder. -/
def Obligations.DecodeOfEncodeIsIdentity : Prop :=
  ∀ i : Instr, i.wellFormed = true → decode (encode i) = i

/-- R81, R86, R89: every descriptor is read as a well-formed row that encodes back to it, and the operand lanes the
operation uses come back too. -/
def Obligations.EncodeOfDecodeKeepsDescriptorAndOperands : Prop :=
  ∀ op : Op,
    (decode op).wellFormed = true ∧
    (encode (decode op)).desc = op.desc ∧
    (op.desc.extractLsb' 12 4 = 0b0100#4 → (encode (decode op)).wdata = op.wdata) ∧
    (op.desc = 0x8000#16 → (encode (decode op)).rxData = op.rxData)

/-- R82, R83, R88, X1 of R251: a reserved descriptor is refused, and every other one names an operation that answers a
next state. -/
def Obligations.ExactlyReservedDescriptorsAreRefused : Prop :=
  ∀ (op : Op) (s : State),
    (op.desc.extractLsb' 14 2 = 0b11#2 → exec (decode op) s = .refused (.descReserved op.desc)) ∧
    (op.desc.extractLsb' 12 2 ≠ 0b00#2 → exec (decode op) s = .refused (.descReserved op.desc)) ∧
    (op.desc.extractLsb' 12 4 = 0b1000#4 → 0x004 ≤ (op.desc.extractLsb' 0 12).toNat →
      exec (decode op) s = .refused (.descReserved op.desc)) ∧
    (op.desc.extractLsb' 12 4 = 0b1000#4 → (op.desc.extractLsb' 0 12).toNat < 0x004 →
      ∃ t, exec (decode op) s = .next t) ∧
    (op.desc.extractLsb' 12 4 = 0b0000#4 ∨ op.desc.extractLsb' 12 4 = 0b0100#4 → ∃ t, exec (decode op) s = .next t)

/-- R82, R83, X1 of R251: each row of the table that names no operation is refused, whatever its don't-care bits. A
descriptor that fits two refused rows stops either way (log entry 13). -/
def Obligations.RefusedRowsStop : Prop :=
  (∀ x s, exec (.refusedEvt004 x) s = .refused (.descReserved (0b10000000000001#14 ++ x))) ∧
  (∀ x s, exec (.refusedEvt008 x) s = .refused (.descReserved (0b1000000000001#13 ++ x))) ∧
  (∀ x s, exec (.refusedEvt010 x) s = .refused (.descReserved (0b100000000001#12 ++ x))) ∧
  (∀ x s, exec (.refusedEvt020 x) s = .refused (.descReserved (0b10000000001#11 ++ x))) ∧
  (∀ x s, exec (.refusedEvt040 x) s = .refused (.descReserved (0b1000000001#10 ++ x))) ∧
  (∀ x s, exec (.refusedEvt080 x) s = .refused (.descReserved (0b100000001#9 ++ x))) ∧
  (∀ x s, exec (.refusedEvt100 x) s = .refused (.descReserved (0b10000001#8 ++ x))) ∧
  (∀ x s, exec (.refusedEvt200 x) s = .refused (.descReserved (0b1000001#7 ++ x))) ∧
  (∀ x s, exec (.refusedEvt400 x) s = .refused (.descReserved (0b100001#6 ++ x))) ∧
  (∀ x s, exec (.refusedEvt800 x) s = .refused (.descReserved (0b10001#5 ++ x))) ∧
  (∀ x s, exec (.refusedCls11 x) s = .refused (.descReserved (0b11#2 ++ x))) ∧
  (∀ cls off s, exec (.refusedZ01 cls off) s = .refused (.descReserved (cls ++ 0b01#2 ++ off))) ∧
  (∀ cls z0 off s, exec (.refusedZ1x cls z0 off) s = .refused (.descReserved (cls ++ 0b1#1 ++ z0 ++ off)))

/-- 95_test_vectors.md D-ENC-1 to D-ENC-15: words written out from the spec. -/
def Obligations.SampleWordsDecode : Prop :=
  ∀ v : Word, ∀ d : Byte,
    decode ⟨0x0000#16, v, d⟩ = .rdId ∧ decode ⟨0x4058#16, v, d⟩ = .wrArbStep v ∧
    decode ⟨0x8000#16, v, d⟩ = .rx d ∧ decode ⟨0x8002#16, v, d⟩ = .clk ∧ decode ⟨0x8003#16, v, d⟩ = .reset ∧
    decode ⟨0x0009#16, v, d⟩ = .rdMisalignedOdd 0x004#11 ∧ decode ⟨0x4059#16, v, d⟩ = .wrMisalignedOdd 0x02C#11 v ∧
    decode ⟨0x0408#16, v, d⟩ = .rdPix 2#8 ∧ decode ⟨0x47FC#16, v, d⟩ = .wrPix 255#8 v ∧
    decode ⟨0x0800#16, v, d⟩ = .rdReserved800 0#9 ∧ decode ⟨0x4FFC#16, v, d⟩ = .wrReserved800 0x1FF#9 v

/-- R22, R71, R263: a step runs the next presented operation on the state with that operation taken from the list
and nothing returned or signalled yet (the model's own fields, log entries 1, 7, 8); with none presented the block is
idle and keeps all its state. An operation presented by withFetchWord is the next one to run. -/
def Obligations.StepRunsPresentedOperation : Prop :=
  (∀ (s : State) (op : Op) (rest : List Op), s.pending = op :: rest →
    step s = exec (decode op) { s with pending := rest, out := .none, conds := [] }) ∧
  (∀ s : State, s.pending = [] → step s = .next s) ∧
  (∀ (s : State) (nbits w : Nat),
    step (s.withFetchWord nbits w) = exec (decode (Op.ofTableWord nbits w)) { s with out := .none, conds := [] })

/-- R252, R74: the block never waits and never faults; every operation the table does not refuse completes. -/
def Obligations.EveryOperationCompletes : Prop :=
  ∀ (i : Instr) (s : State), (∃ t, exec i s = .next t) ∨ exec i s = .refused (.descReserved (encode i).desc) ∧
    ((encode i).desc.extractLsb' 12 2 ≠ 0b00#2 ∨ (encode i).desc.extractLsb' 14 2 = 0b11#2 ∨
      ((encode i).desc.extractLsb' 14 2 = 0b10#2 ∧ 4 ≤ ((encode i).desc.extractLsb' 0 12).toNat))

/-! ### Invariants -/

/-- R24, R26, R33-R36, R46, R50: every step keeps the invariant of the machine. -/
def Obligations.StepKeepsInvariant : Prop :=
  ∀ s t : State, Inv s → step s = .next t → Inv t

/-- R52: both invariants hold after reset, for every parameter choice R7 allows and every number of draws before. -/
def Obligations.ResetEstablishesInvariants : Prop :=
  ∀ (c : Config) (k : Nat), c.wf → Inv (State.resetOf c k) ∧ RecordInv (State.resetOf c k) ∧ Inv State.reset

/-- R125 (derived there from R106 and R107): every step keeps, of the mailbox and of the snapshot, that the last word
of a record is the sum of its frame's bytes. -/
def Obligations.StepKeepsRecordChecksums : Prop :=
  ∀ s t : State, RecordInv s → step s = .next t → RecordInv t

/-- R7: no operation changes the block's parameters. R274: only RESET draws. That no operation, RESET among them,
changes the operations still to come or the parameters is the model's choice (log entry 21), and the list pending and
the counter draws are the model's own fields (log entries 1, 6). -/
def Obligations.NoOperationChangesParameters : Prop :=
  ∀ (i : Instr) (s t : State), exec i s = .next t →
    t.cfg = s.cfg ∧ t.pending = s.pending ∧ (i ≠ .reset → t.draws = s.draws)

/-! ### Access rules over the whole window -/

/-- R69: of all bus reads, only an MB_STAT read that finds FRESH = 1 changes a state element: any other read changes
nothing but what the model records of the operation itself (its output and its conditions; log entries 7, 8). -/
def Obligations.OnlyFreshMailboxReadHasSideEffect : Prop :=
  ∀ (op : Op) (s : State), op.desc.extractLsb' 12 4 = 0b0000#4 → (op.desc ≠ 0x0008#16 ∨ s.fresh = false) →
    ∃ w cs, exec (decode op) s = .next { s with out := .readData w, conds := cs }

/-- R64: a misaligned read returns 0 and a misaligned write does nothing, at every misaligned offset. Both
signal X7 (conds: log entry 8). -/
def Obligations.MisalignedAccessIsIgnored : Prop :=
  (∀ (op : Op) (s : State), op.desc.extractLsb' 12 4 = 0b0000#4 → op.desc.extractLsb' 0 2 ≠ 0b00#2 →
    exec (decode op) s = .next { s with out := .readData 0, conds := s.conds ++ [.ignoredAccess] }) ∧
  (∀ (op : Op) (s : State), op.desc.extractLsb' 12 4 = 0b0100#4 → op.desc.extractLsb' 0 2 ≠ 0b00#2 →
    exec (decode op) s = .next { s with conds := s.conds ++ [.ignoredAccess] }) ∧
  (∀ x s, exec (.rdMisalignedOdd x) s = .next { s with out := .readData 0, conds := s.conds ++ [.ignoredAccess] }) ∧
  (∀ x s, exec (.rdMisalignedHalf x) s = .next { s with out := .readData 0, conds := s.conds ++ [.ignoredAccess] }) ∧
  (∀ x v s, exec (.wrMisalignedOdd x v) s = .next { s with conds := s.conds ++ [.ignoredAccess] }) ∧
  (∀ x v s, exec (.wrMisalignedHalf x v) s = .next { s with conds := s.conds ++ [.ignoredAccess] })

/-- R237, R238: an aligned offset outside the register table and the pixel window (0x00C, 0x090-0x3FC, 0x800-0xFFC)
reads 0, and a write to it does nothing; both signal X7 (conds: log entry 8). The rows' own constructors follow. -/
def Obligations.ReservedOffsetIsIgnored : Prop :=
  (∀ (op : Op) (s : State), op.desc.extractLsb' 0 2 = 0b00#2 →
    ((op.desc.extractLsb' 0 12).toNat = 0x00C ∨
      (0x090 ≤ (op.desc.extractLsb' 0 12).toNat ∧ (op.desc.extractLsb' 0 12).toNat ≤ 0x3FC) ∨
      0x800 ≤ (op.desc.extractLsb' 0 12).toNat) →
    (op.desc.extractLsb' 12 4 = 0b0000#4 →
      exec (decode op) s = .next { s with out := .readData 0, conds := s.conds ++ [.ignoredAccess] }) ∧
    (op.desc.extractLsb' 12 4 = 0b0100#4 →
      exec (decode op) s = .next { s with conds := s.conds ++ [.ignoredAccess] })) ∧
  (∀ (s : State) (x2 : BitVec 2) (x3 : BitVec 3) (x4 : BitVec 4) (x6 : BitVec 6) (x7 : BitVec 7) (x9 : BitVec 9),
    ∀ i ∈ [Instr.rdReserved00C, .rdReserved090 x2, .rdReserved0A0 x3, .rdReserved0C0 x4, .rdReserved100 x6,
        .rdReserved200 x7, .rdReserved800 x9],
      exec i s = .next { s with out := .readData 0, conds := s.conds ++ [.ignoredAccess] }) ∧
  (∀ (s : State) (v : Word) (x2 : BitVec 2) (x3 : BitVec 3) (x4 : BitVec 4) (x6 : BitVec 6) (x7 : BitVec 7)
      (x9 : BitVec 9),
    ∀ i ∈ [Instr.wrReserved00C v, .wrReserved090 x2 v, .wrReserved0A0 x3 v, .wrReserved0C0 x4 v, .wrReserved100 x6 v,
        .wrReserved200 x7 v, .wrReserved800 x9 v],
      exec i s = .next { s with conds := s.conds ++ [.ignoredAccess] })

/-- R236: a write to a read-only register, at the offset of each, changes no state: it neither clears FRESH nor sets
TICK. It signals X7 (conds: log entry 8). -/
def Obligations.ReadOnlyRegisterWriteIsIgnored : Prop :=
  ∀ (s : State) (v : Word),
    ∀ p ∈ [(Instr.wrId v, 0x000), (.wrDecStat v, 0x004), (.wrMbStat v, 0x008), (.wrSnap0 v, 0x010),
        (.wrSnap1 v, 0x014), (.wrSnap2 v, 0x018), (.wrSnap3 v, 0x01C), (.wrSnap4 v, 0x020), (.wrSnap5 v, 0x024),
        (.wrSnap6 v, 0x028), (.wrSnap7 v, 0x02C), (.wrSnap8 v, 0x030), (.wrSnap9 v, 0x034), (.wrSnap10 v, 0x038),
        (.wrSnap11 v, 0x03C), (.wrSnap12 v, 0x040), (.wrSnap13 v, 0x044), (.wrSnap14 v, 0x048), (.wrStale v, 0x04C),
        (.wrArbStat v, 0x05C), (.wrLight v, 0x060), (.wrLightRgb v, 0x064), (.wrLightPos v, 0x068),
        (.wrTick v, 0x06C)],
      (encode p.1).desc.toNat = 0x4000 + p.2 ∧
      exec p.1 s = .next { s with conds := s.conds ++ [.ignoredAccess] }

/-! ### Control registers -/

/-- R231: ID is a constant in every state. -/
def Obligations.IdReadsConstant : Prop :=
  ∀ s : State, exec .rdId s = .next { s with out := .readData 0x56330001#32 } ∧ (encode .rdId).desc = 0x0000#16

/-- R232, R234: the interrupt registers read their three bits and clear nothing. -/
def Obligations.InterruptRegisterReads : Prop :=
  ∀ s : State,
    (∃ w : Word, exec .rdIrqPend s = .next { s with out := .readData w } ∧ w.toNat = s.irqPend.toNat) ∧
    (∃ w : Word, exec .rdIrqEn s = .next { s with out := .readData w } ∧ w.toNat = s.irqEn.toNat) ∧
    (encode .rdIrqPend).desc = 0x0088#16 ∧ (encode .rdIrqEn).desc = 0x008C#16

/-- R233: writing 1 clears a pending bit, writing 0 leaves it, and nothing else changes. -/
def Obligations.InterruptAcknowledgeClearsOnes : Prop :=
  ∀ (s : State) (v : Word), (encode (.wrIrqPend v)).desc = 0x4088#16 ∧
    ∃ t, exec (.wrIrqPend v) s = .next t ∧ t = { s with irqPend := t.irqPend } ∧
    ∀ b, b < 3 → t.irqPend.getLsbD b = (s.irqPend.getLsbD b && !v.getLsbD b)

/-- R235, R254: IRQ_EN takes bits [2:0], and the request line is high exactly when a pending bit is enabled, at
once. -/
def Obligations.InterruptEnableDrivesRequestLine : Prop :=
  ∀ (s : State) (v : Word), (encode (.wrIrqEn v)).desc = 0x408C#16 ∧
    ∃ t, exec (.wrIrqEn v) s = .next t ∧ t = { s with irqEn := t.irqEn } ∧
    (∀ b, b < 3 → t.irqEn.getLsbD b = v.getLsbD b) ∧
    (t.irqO = true ↔ ∃ b, b < 3 ∧ s.irqPend.getLsbD b = true ∧ v.getLsbD b = true)

/-- R253: a bit of IRQ_PEND is set only by an RX (REC), a CLK (LDONE) or a STEP (STALE), and cleared only by a write
of 1 or by RESET. -/
def Obligations.PendingBitsHaveOneSourceEach : Prop :=
  ∀ (i : Instr) (s t : State), exec i s = .next t →
    (t.irqPend.getLsbD 0 = true → s.irqPend.getLsbD 0 = false → ∃ d, i = .rx d) ∧
    (t.irqPend.getLsbD 1 = true → s.irqPend.getLsbD 1 = false → i = .clk) ∧
    (t.irqPend.getLsbD 2 = true → s.irqPend.getLsbD 2 = false → ∃ v, i = .wrArbStep v) ∧
    (∀ b, b < 3 → s.irqPend.getLsbD b = true → t.irqPend.getLsbD b = false →
      i = .reset ∨ ∃ v, i = .wrIrqPend v ∧ v.getLsbD b = true)

/-! ### Frame decoder and mailbox -/

/-- R103: RX in AwaitSync1. -/
def Obligations.RxAwaitingFirstSync : Prop :=
  ∀ (s : State) (d : Byte), s.dstate = .awaitSync1 →
    (d = 0x42#8 → exec (.rx d) s =
      .next { s with dbuf := s.dbuf.set 0 d, dcnt := 1, dstate := .awaitSync2 }) ∧
    (d ≠ 0x42#8 → exec (.rx d) s = .next s)

/-- R104: RX in AwaitSync2; a mismatching byte, even 0x42, is consumed and the decoder waits for a first sync byte,
with X2 signalled (conds: log entry 8). -/
def Obligations.RxAwaitingSecondSync : Prop :=
  ∀ (s : State) (d : Byte), s.dstate = .awaitSync2 →
    (d = 0x4D#8 → exec (.rx d) s =
      .next { s with dbuf := s.dbuf.set 1 d, dcnt := 2, dstate := .collecting }) ∧
    (d ≠ 0x4D#8 → exec (.rx d) s =
      .next { s with dcnt := 0, dstate := .awaitSync1, conds := s.conds ++ [.syncLost] })

/-- R105: RX in Collecting, before the last byte: the byte is appended, whatever it is. -/
def Obligations.RxCollectingAppends : Prop :=
  ∀ (s : State) (d : Byte), s.dstate = .collecting → s.dcnt.val < 31 →
    ∃ t, exec (.rx d) s = .next t ∧ t = { s with dbuf := t.dbuf, dcnt := t.dcnt } ∧
      t.dcnt.val = s.dcnt.val + 1 ∧
      ∀ j : Fin 32, t.dbuf[j] = if j = s.dcnt then d else s.dbuf[j]

/-- R106, R107: the 32nd byte of a frame whose checksum is right publishes the record: the fifteen big-endian words
and the flags, at once, and the decoder waits for the next frame. X9 is signalled over an unread record (conds: log
entry 8). -/
def Obligations.LastByteOfValidFramePublishes : Prop :=
  ∀ (s : State) (d : Byte), s.dstate = .collecting → s.dcnt = 31 →
    (∑ j : Fin 30, s.dbuf[j.val].toNat) % 65536 = 256 * s.dbuf[30].toNat + d.toNat →
    ∃ t, exec (.rx d) s = .next t ∧
      t = { s with
        dbuf := s.dbuf.set 31 d, dstate := .awaitSync1, dcnt := 0, mb := t.mb, fresh := true, ovr := s.ovr || s.fresh,
        rss := true, irqPend := s.irqPend ||| 0b001#3,
        conds := s.conds ++ (if s.fresh then [.recordOverwrite] else []) } ∧
      (∀ k : Fin 14, t.mb[k.val].toNat = 256 * s.dbuf[2 + 2 * k.val].toNat + s.dbuf[3 + 2 * k.val].toNat) ∧
      t.mb[14].toNat = 256 * s.dbuf[30].toNat + d.toNat

/-- R106, R108: the 32nd byte of a frame whose checksum is wrong discards it silently: no flag, no record, only
X3 signalled (conds: log entry 8). -/
def Obligations.LastByteOfBadFrameDiscards : Prop :=
  ∀ (s : State) (d : Byte), s.dstate = .collecting → s.dcnt = 31 →
    (∑ j : Fin 30, s.dbuf[j.val].toNat) % 65536 ≠ 256 * s.dbuf[30].toNat + d.toNat →
    exec (.rx d) s = .next { s with
      dbuf := s.dbuf.set 31 d, dstate := .awaitSync1, dcnt := 0, conds := s.conds ++ [.checksumFail] }

/-- R110: RD MB_STAT returns the flags as they were and takes the record if one is fresh. -/
def Obligations.MailboxReadTakesFreshRecord : Prop :=
  ∀ s : State, (encode .rdMbStat).desc = 0x0008#16 ∧
    ∃ w : Word, w.toNat = 2 * s.ovr.toNat + s.fresh.toNat ∧
    (s.fresh = false → exec .rdMbStat s = .next { s with out := .readData w }) ∧
    (s.fresh = true → exec .rdMbStat s =
      .next { s with out := .readData w, snap := s.mb, fresh := false, ovr := false }) ∧
    (Inv s → s.fresh = false → w = 0)

/-- R111-R118: reads of SNAP0 to SNAP7. -/
def Obligations.SnapshotReadsLowHalf : Prop :=
  ∀ s : State, ∀ p ∈ [(Instr.rdSnap0, (0 : Fin 15)), (.rdSnap1, 1), (.rdSnap2, 2), (.rdSnap3, 3), (.rdSnap4, 4),
      (.rdSnap5, 5), (.rdSnap6, 6), (.rdSnap7, 7)],
    (encode p.1).desc.toNat = 0x0010 + 4 * p.2.val ∧
    ∃ w : Word, exec p.1 s = .next { s with out := .readData w } ∧ w.toNat = s.snap[p.2].toNat

/-- R119-R125: reads of SNAP8 to SNAP14. -/
def Obligations.SnapshotReadsHighHalf : Prop :=
  ∀ s : State, ∀ p ∈ [(Instr.rdSnap8, (8 : Fin 15)), (.rdSnap9, 9), (.rdSnap10, 10), (.rdSnap11, 11), (.rdSnap12, 12),
      (.rdSnap13, 13), (.rdSnap14, 14)],
    (encode p.1).desc.toNat = 0x0010 + 4 * p.2.val ∧
    ∃ w : Word, exec p.1 s = .next { s with out := .readData w } ∧ w.toNat = s.snap[p.2].toNat

/-- R126, R127: the status reads of the decoder and of the staleness timer. -/
def Obligations.DecoderAndStalenessStatusReads : Prop :=
  ∀ s : State, (encode .rdDecStat).desc = 0x0004#16 ∧ (encode .rdStale).desc = 0x004C#16 ∧
    (∃ w : Word, exec .rdDecStat s = .next { s with out := .readData w } ∧
      (s.dstate = .awaitSync1 → w.toNat = 256 * s.dcnt.val) ∧
      (s.dstate = .awaitSync2 → w.toNat = 256 * s.dcnt.val + 1) ∧
      (s.dstate = .collecting → w.toNat = 256 * s.dcnt.val + 2)) ∧
    (∃ w : Word, exec .rdStale s = .next { s with out := .readData w } ∧
      w.toNat = 512 * s.rss.toNat + 256 * s.stale.toNat + s.scnt.toNat)

/-- 95_test_vectors.md L1-1 in general, from R66 and R101-R110: a whole valid frame, fed byte by byte to a decoder
that waits for a first sync byte, is delivered: the next MB_STAT read finds it and takes exactly its big-endian
words. -/
def Obligations.ValidFrameIsDelivered : Prop :=
  ∀ (s : State) (f : Vector Byte 32), s.dstate = .awaitSync1 → f[0] = 0x42#8 → f[1] = 0x4D#8 →
    ∑ j : Fin 30, f[j.val].toNat = 256 * f[30].toNat + f[31].toNat →
    ∃ t, runInstrs (f.toList.map Instr.rx) s = .next t ∧
      t.dstate = .awaitSync1 ∧ t.dcnt = 0 ∧ t.fresh = true ∧ t.rss = true ∧ t.irqPend.getLsbD 0 = true ∧
      t.snap = s.snap ∧ t.ovr = (s.ovr || s.fresh) ∧
      ∃ u w, exec .rdMbStat t = .next u ∧ u.out = .readData w ∧ w.getLsbD 0 = true ∧ u.fresh = false ∧
        ∀ k : Fin 15, u.snap[k].toNat = 256 * f[2 + 2 * k.val].toNat + f[3 + 2 * k.val].toNat

/-- 90_conflicts.md C6, in the form R101 and R104 give it (log entry 14): a stream in which 0x42 is never followed by
0x4D publishes nothing, and leaves the decoder in AwaitSync2 exactly when it ends in an odd number of 0x42 bytes,
else in AwaitSync1. -/
def Obligations.StreamWithoutSyncPairPublishesNothing : Prop :=
  ∀ (s : State) (l : List Byte), s.dstate = .awaitSync1 →
    (∀ n, l[n]? = some 0x42#8 → l[n + 1]? ≠ some 0x4D#8) →
    ∃ t, runInstrs (l.map Instr.rx) s = .next t ∧
      t.mb = s.mb ∧ t.fresh = s.fresh ∧ t.ovr = s.ovr ∧ t.rss = s.rss ∧ t.irqPend = s.irqPend ∧
      t.dstate = if (l.reverse.takeWhile (· == 0x42#8)).length % 2 = 1 then .awaitSync2 else .awaitSync1

/-- R101, R48, R49: the decoder changes only on RX and RESET; the mailbox words too; FRESH and OVR are cleared only
by an MB_STAT read or RESET, RSS only by a STEP or RESET; SNAP changes only at an MB_STAT read that finds FRESH = 1
or RESET (R72). -/
def Obligations.DecoderStateChangesOnlyOnRx : Prop :=
  ∀ (i : Instr) (s t : State), exec i s = .next t → i ≠ .reset →
    ((∀ d, i ≠ .rx d) → t.dstate = s.dstate ∧ t.dcnt = s.dcnt ∧ t.dbuf = s.dbuf ∧ t.mb = s.mb) ∧
    ((t.fresh ≠ s.fresh ∨ t.ovr ≠ s.ovr) → i = .rdMbStat ∨ ∃ d, i = .rx d) ∧
    (t.rss ≠ s.rss → (∃ v, i = .wrArbStep v) ∨ ∃ d, i = .rx d) ∧
    (t.snap ≠ s.snap → i = .rdMbStat ∧ s.fresh = true)

/-! ### Staleness timer, arbitrator, time base -/

/-- R128, R155: the staleness stage of a STEP, and the interrupt on the rise of STALE. -/
def Obligations.StepUpdatesStaleness : Prop :=
  ∀ (s : State) (v : Word), s.cfg.staleCmp = .ge →
    ∃ t, exec (.wrArbStep v) s = .next t ∧
      (s.rss = true → t.scnt = 0) ∧ (s.rss = false → t.scnt.toNat = min (s.scnt.toNat + 1) 255) ∧
      t.rss = false ∧ (t.stale = true ↔ 30 ≤ t.scnt.toNat) ∧
      (s.stale = false → t.stale = true → t.irqPend = s.irqPend ||| 0b100#3) ∧
      (s.stale = true ∨ t.stale = false → t.irqPend = s.irqPend)

/-- R147, R148, R149: STATUS and CAUSE after a STEP, the faults first, then fire, intrusion and the environmental
alarms of sensors that are not faulty. -/
def Obligations.StepArbitratesByPriority : Prop :=
  ∀ (s : State) (v : Word), s.cfg.atDefaultReadings →
    ∃ t, exec (.wrArbStep v) s = .next t ∧
      let status := (t.arbStat.extractLsb' 0 2).toNat
      let cause := (t.arbStat.extractLsb' 4 3).toNat
      let pf := s.arbIn.getLsbD 9 = true ∨ t.stale = true
      let tf := s.arbIn.getLsbD 8 = true
      let fire := s.arbIn.getLsbD 0 = true
      let intr := s.arbIn.getLsbD 1 = true
      let pm := s.arbIn.getLsbD 2 = true
      let temp := s.arbIn.getLsbD 3 = true
      let humi := s.arbIn.getLsbD 4 = true
      (pf ∨ tf → status = 3 ∧ cause = 1) ∧
      (¬pf → ¬tf → fire → status = 1 ∧ cause = 2) ∧
      (¬pf → ¬tf → ¬fire → intr → status = 2 ∧ cause = 3) ∧
      (¬pf → ¬tf → ¬fire → ¬intr → pm → status = 3 ∧ cause = 4) ∧
      (¬pf → ¬tf → ¬fire → ¬intr → ¬pm → temp → status = 3 ∧ cause = 5) ∧
      (¬pf → ¬tf → ¬fire → ¬intr → ¬pm → ¬temp → humi → status = 3 ∧ cause = 6) ∧
      (¬pf → ¬tf → ¬fire → ¬intr → ¬pm → ¬temp → ¬humi → status = 0 ∧ cause = 0)

/-- R148, R150, R151: ALARM_ANY, DUR and SOUND after a STEP. -/
def Obligations.StepSoundsWithinBudget : Prop :=
  ∀ (s : State) (v : Word), s.cfg.soundCmpPre = true →
    ∃ t, exec (.wrArbStep v) s = .next t ∧
      let dur0 := (s.arbStat.extractLsb' 16 8).toNat
      let dur := (t.arbStat.extractLsb' 16 8).toNat
      let any := s.arbIn.getLsbD 0 = true ∨ s.arbIn.getLsbD 1 = true ∨
        (s.arbIn.getLsbD 2 = true ∧ s.arbIn.getLsbD 9 = false ∧ t.stale = false) ∨
        (s.arbIn.getLsbD 3 = true ∧ s.arbIn.getLsbD 8 = false) ∨
        (s.arbIn.getLsbD 4 = true ∧ s.arbIn.getLsbD 8 = false)
      (t.arbStat.getLsbD 9 = true ↔ any) ∧
      (any → dur = min (dur0 + 1) 50) ∧ (¬any → dur = 0) ∧
      (t.arbStat.getLsbD 8 = true ↔ any ∧ dur0 < 50 ∧ s.arbCfg.getLsbD 0 = false) ∧
      t.buzzO = t.arbStat.getLsbD 8

/-- R147, R152: FAULT_CODE after a STEP, the lowest code that applies. -/
def Obligations.StepReportsLowestFaultCode : Prop :=
  ∀ (s : State) (v : Word),
    ∃ t, exec (.wrArbStep v) s = .next t ∧
      let code := (t.arbStat.extractLsb' 12 2).toNat
      let pf := s.arbIn.getLsbD 9 = true ∨ t.stale = true
      (s.arbIn.getLsbD 8 = true → code = 1) ∧
      (s.arbIn.getLsbD 8 = false → pf → code = 2) ∧
      (s.arbIn.getLsbD 8 = false → ¬pf → s.arbIn.getLsbD 10 = true → code = 3) ∧
      (s.arbIn.getLsbD 8 = false → ¬pf → s.arbIn.getLsbD 10 = false → code = 0)

/-- R153, R154, R156, R165: the light after a STEP, as a function of the overrides, the light mode, the CAUSE the STEP
arrived at, and TICK. The colours are COLOR_TABLE's (R164), whatever its values. -/
def Obligations.StepSelectsLight : Prop :=
  ∀ (s : State) (v : Word), s.cfg.wf →
    ∃ t, exec (.wrArbStep v) s = .next t ∧
      let c := s.cfg.colors
      let emerg := s.arbCfg.getLsbD 2 = true
      let edit := s.arbCfg.getLsbD 3 = true
      let loff := s.arbCfg.getLsbD 1 = true
      let cause := (t.arbStat.extractLsb' 4 3).toNat
      let shows := fun (kind period lit pos : Nat) (rgb : Rgb) =>
        t.light.toNat = 256 * period + 16 * lit + kind ∧ t.lightRgb.toNat = rgb.toNat ∧ t.lightPos.toNat = pos
      let flashes := fun (p : Nat) (rgb : Rgb) => shows 2 p (if s.tick.toNat / p % 2 = 0 then 1 else 0) 0 rgb
      (emerg → shows 1 0 1 0 c.white) ∧
      (¬emerg → edit → shows 3 0 1 (s.tick.toNat % s.cfg.nPix) c.white) ∧
      (¬emerg → ¬edit → cause = 0 → loff → shows 0 0 0 0 c.off) ∧
      (¬emerg → ¬edit → cause = 0 → ¬loff → shows 1 0 1 0 c.green) ∧
      (¬emerg → ¬edit → cause = 1 → flashes 10 c.yellow) ∧
      (¬emerg → ¬edit → cause = 2 → flashes 1 c.red) ∧
      (¬emerg → ¬edit → cause = 3 → flashes 5 c.purple) ∧
      (¬emerg → ¬edit → cause = 4 → flashes 2 c.orange) ∧
      (¬emerg → ¬edit → cause = 5 → flashes 5 c.yellow) ∧
      (¬emerg → ¬edit → cause = 6 → flashes 10 c.blue) ∧
      cause < 7

/-- R8, D8, D10, D12, D14: what each alternative-reading parameter changes in a STEP (the model's reading of them, log
entry 4): STALE rises above 30, a storage fault escalates, SOUND compares the counter after its increment, and the
environmental alarms take the order ENV_ORDER gives. -/
def Obligations.AlternativeReadingsOfStep : Prop :=
  ∀ (s : State) (v : Word),
    ∃ t, exec (.wrArbStep v) s = .next t ∧
      let status := (t.arbStat.extractLsb' 0 2).toNat
      let cause := (t.arbStat.extractLsb' 4 3).toNat
      let pf := s.arbIn.getLsbD 9 = true ∨ t.stale = true
      let tf := s.arbIn.getLsbD 8 = true
      let sf := s.arbIn.getLsbD 10 = true
      let pm := (s.arbIn.getLsbD 2, 4)
      let temp := (s.arbIn.getLsbD 3, 5)
      let humi := (s.arbIn.getLsbD 4, 6)
      let ranked : List (Bool × Nat) :=
        match s.cfg.envOrder with
        | .pmTempHumi => [pm, temp, humi]
        | .pmHumiTemp => [pm, humi, temp]
        | .tempPmHumi => [temp, pm, humi]
        | .tempHumiPm => [temp, humi, pm]
        | .humiPmTemp => [humi, pm, temp]
        | .humiTempPm => [humi, temp, pm]
      (s.cfg.staleCmp = .gt → (t.stale = true ↔ 30 < t.scnt.toNat)) ∧
      (s.cfg.sfaultEscalates = true → sf → status = 3 ∧ cause = 1) ∧
      (s.cfg.soundCmpPre = false → (t.arbStat.getLsbD 8 = true ↔
        t.arbStat.getLsbD 9 = true ∧ (t.arbStat.extractLsb' 16 8).toNat < 50 ∧ s.arbCfg.getLsbD 0 = false)) ∧
      (¬pf → ¬tf → ¬sf → s.arbIn.getLsbD 0 = false → s.arbIn.getLsbD 1 = false →
        cause = ((ranked.find? (·.1)).map (·.2)).getD 0)

/-- R145: what a STEP leaves unchanged, the time base and the input registers among it, whatever value is written. -/
def Obligations.StepChangesOnlyTimerAndOutputs : Prop :=
  ∀ (s : State) (v : Word), (encode (.wrArbStep v)).desc = 0x4058#16 ∧
    ∃ t, exec (.wrArbStep v) s = .next t ∧
      t = { s with
        scnt := t.scnt, stale := t.stale, rss := t.rss, irqPend := t.irqPend, arbStat := t.arbStat, light := t.light,
        lightRgb := t.lightRgb, lightPos := t.lightPos, conds := t.conds } ∧
      (∀ v', exec (.wrArbStep v') s = .next t)

/-- R146: a STEP's outputs are a total function of what it samples: two states that agree on the inputs, the
controls, TICK, DUR and the staleness timer get the same outputs, however else they differ. -/
def Obligations.StepOutputsDependOnlyOnSampledInputs : Prop :=
  ∀ (s₁ s₂ : State) (v₁ v₂ : Word), s₁.cfg = s₂.cfg → s₁.arbIn = s₂.arbIn → s₁.arbCfg = s₂.arbCfg → s₁.tick = s₂.tick →
    s₁.arbStat.extractLsb' 16 8 = s₂.arbStat.extractLsb' 16 8 → s₁.scnt = s₂.scnt → s₁.rss = s₂.rss →
    ∃ t₁ t₂, exec (.wrArbStep v₁) s₁ = .next t₁ ∧ exec (.wrArbStep v₂) s₂ = .next t₂ ∧
      t₁.arbStat = t₂.arbStat ∧ t₁.light = t₂.light ∧ t₁.lightRgb = t₂.lightRgb ∧ t₁.lightPos = t₂.lightPos ∧
      t₁.scnt = t₂.scnt ∧ t₁.stale = t₂.stale ∧ t₁.rss = t₂.rss

/-- 95_test_vectors.md L1-5 in general, from R151: while FIRE holds and SILENT is 0, exactly the first 50 STEPs
sound, and DUR counts them up to its cap. -/
def Obligations.ExactlyFiftyStepsSound : Prop :=
  ∀ (s : State) (n : Nat), s.cfg.soundCmpPre = true → s.arbIn.getLsbD 0 = true → s.arbCfg.getLsbD 0 = false →
    s.arbStat.extractLsb' 16 8 = 0#8 →
    ∃ t, runInstrs (List.replicate (n + 1) (.wrArbStep 0)) s = .next t ∧
      (t.arbStat.extractLsb' 16 8).toNat = min (n + 1) 50 ∧
      (t.buzzO = true ↔ n + 1 ≤ 50)

/-- 95_test_vectors.md D-STL in general, from R128 and R155: with no record, STALE first rises at the 30th STEP after
the timer stood at 0, raises IRQ_PEND.STALE then, and SCNT saturates. -/
def Obligations.StalenessRisesAtThirtiethStep : Prop :=
  ∀ (s : State) (n : Nat), s.cfg.staleCmp = .ge → s.scnt = 0 → s.rss = false → s.stale = false →
    ∃ t, runInstrs (List.replicate n (.wrArbStep 0)) s = .next t ∧
      t.scnt.toNat = min n 255 ∧ (t.stale = true ↔ 30 ≤ n) ∧
      t.irqPend = if 30 ≤ n then s.irqPend ||| 0b100#3 else s.irqPend

/-- R141-R144: the input registers take their writable bits and read them back. -/
def Obligations.InputRegistersHoldWritableBits : Prop :=
  ∀ (s : State) (v : Word),
    exec (.wrArbIn v) s = .next { s with arbIn := v &&& 0x0000071F#32 } ∧
    exec (.wrArbCfg v) s = .next { s with arbCfg := v &&& 0x0000000F#32 } ∧
    exec .rdArbIn s = .next { s with out := .readData s.arbIn } ∧
    exec .rdArbCfg s = .next { s with out := .readData s.arbCfg } ∧
    (encode (.wrArbIn v)).desc = 0x4050#16 ∧ (encode .rdArbIn).desc = 0x0050#16 ∧
    (encode (.wrArbCfg v)).desc = 0x4054#16 ∧ (encode .rdArbCfg).desc = 0x0054#16

/-- R157-R161, R163: the arbitrator's output reads and the TICK read; a read of ARB_STEP returns 0 and performs no
STEP. -/
def Obligations.ArbitratorOutputReads : Prop :=
  ∀ s : State,
    exec .rdArbStep s = .next { s with out := .readData 0 } ∧
    exec .rdArbStat s = .next { s with out := .readData s.arbStat } ∧
    exec .rdLight s = .next { s with out := .readData s.light } ∧
    exec .rdLightRgb s = .next { s with out := .readData s.lightRgb } ∧
    exec .rdLightPos s = .next { s with out := .readData s.lightPos } ∧
    exec .rdTick s = .next { s with out := .readData s.tick } ∧
    (encode .rdArbStep).desc = 0x0058#16 ∧ (encode .rdArbStat).desc = 0x005C#16 ∧
    (encode .rdLight).desc = 0x0060#16 ∧ (encode .rdLightRgb).desc = 0x0064#16 ∧
    (encode .rdLightPos).desc = 0x0068#16 ∧ (encode .rdTick).desc = 0x006C#16

/-- R162: TICK advances the time base by one modulo 2^32 and changes no output. -/
def Obligations.TickAdvancesTimeBase : Prop :=
  ∀ s : State, (encode .tick).desc = 0x8001#16 ∧
    ∃ t, exec .tick s = .next t ∧ t = { s with tick := t.tick } ∧ t.tick.toNat = (s.tick.toNat + 1) % 2 ^ 32

/-- R33-R37, R146, R162: only a STEP or RESET writes the arbitrator's outputs and the staleness timer; only TICK or
RESET writes the time base; only their own writes or RESET write the input registers. -/
def Obligations.ArbitratorStateHasFewWriters : Prop :=
  ∀ (i : Instr) (s t : State), exec i s = .next t → i ≠ .reset →
    ((∀ v, i ≠ .wrArbStep v) → t.arbStat = s.arbStat ∧ t.light = s.light ∧ t.lightRgb = s.lightRgb ∧
      t.lightPos = s.lightPos ∧ t.scnt = s.scnt ∧ t.stale = s.stale ∧ t.buzzO = s.buzzO) ∧
    (i ≠ .tick → t.tick = s.tick) ∧
    ((∀ v, i ≠ .wrArbIn v) → t.arbIn = s.arbIn) ∧ ((∀ v, i ≠ .wrArbCfg v) → t.arbCfg = s.arbCfg)

/-! ### LED encoder -/

/-- R195, R196, R197: a write to LED_CTRL sets PIXSRC always; a request while BUSY is dropped with RDROP, one with
invalid timing is refused with CFGERR, and a valid one starts the burst at cycle 0. X4 and X5 stand in conds (log
entry 8). -/
def Obligations.LedControlWriteRequestsBurst : Prop :=
  ∀ (s : State) (v : Word), (encode (.wrLedCtrl v)).desc = 0x4070#16 ∧
    let src := v.getLsbD 1
    let valid := 1 ≤ s.ledT0h.toNat ∧ s.ledT0h.toNat < s.ledT1h.toNat ∧ s.ledT1h.toNat < s.ledTbit.toNat ∧
      1 ≤ s.ledTrst.toNat
    (v.getLsbD 0 = false → exec (.wrLedCtrl v) s = .next { s with pixsrc := src }) ∧
    (v.getLsbD 0 = true → s.lbusy = true → exec (.wrLedCtrl v) s =
      .next { s with pixsrc := src, rdrop := true, conds := s.conds ++ [.refreshBusy] }) ∧
    (v.getLsbD 0 = true → s.lbusy = false → ¬valid → exec (.wrLedCtrl v) s =
      .next { s with pixsrc := src, cfgerr := true, conds := s.conds ++ [.ledCfgInvalid] }) ∧
    (v.getLsbD 0 = true → s.lbusy = false → valid → ∃ bits, exec (.wrLedCtrl v) s =
      .next { s with
        pixsrc := src, lbusy := true, lt := 0, lt0h := s.ledT0h, lt1h := s.ledT1h, ltbit := s.ledTbit,
        ltrst := s.ledTrst, lbits := bits })

/-- R192, R198, R203: what an accepted request latches: bit 24·i + 8·c + k of the burst is bit 7-k of pixel i's green
(c = 0), red (c = 1) or blue (c = 2) byte, from the pixel RAM or from the LIGHT registers as they stand. -/
def Obligations.AcceptedRequestLatchesBits : Prop :=
  ∀ (s t : State) (v : Word), Memory.wf s.cfg.nPix s.pix → s.lbusy = false → v.getLsbD 0 = true →
    exec (.wrLedCtrl v) s = .next t → t.lbusy = true →
    t.lbits.length = 24 * s.cfg.nPix ∧
    ∀ (i : Nat) (p : Rgb), i < s.cfg.nPix →
      (v.getLsbD 1 = false → s.pix[i]? = some p) →
      (v.getLsbD 1 = true → p =
        if s.light.extractLsb' 0 2 = 1#2 ∨ (s.light.extractLsb' 0 2 = 2#2 ∧ s.light.getLsbD 4 = true) ∨
            (s.light.extractLsb' 0 2 = 3#2 ∧ i = (s.lightPos.extractLsb' 0 8).toNat)
        then s.lightRgb.extractLsb' 0 24 else 0) →
      ∀ k, k < 8 →
        t.lbits[24 * i + k]? = some (p.getLsbD (15 - k)) ∧
        t.lbits[24 * i + 8 + k]? = some (p.getLsbD (23 - k)) ∧
        t.lbits[24 * i + 16 + k]? = some (p.getLsbD (7 - k))

/-- R202: one CLK, busy and idle; it touches no state but LBUSY, LT and IRQ_PEND.LDONE. LT is 32 bits wide, and its
incremented value is compared with the end of the burst (log entry 17). -/
def Obligations.ClkAdvancesBurst : Prop :=
  ∀ s : State, (encode .clk).desc = 0x8002#16 ∧
    (s.lbusy = false → exec .clk s = .next { s with out := .lineLevel false }) ∧
    (s.lbusy = true → (s.lt.toNat + 1) % 2 ^ 32 ≠ 24 * s.cfg.nPix * s.ltbit.toNat + s.ltrst.toNat →
      exec .clk s = .next { s with out := .lineLevel s.ledDout, lt := s.lt + 1 }) ∧
    (s.lbusy = true → (s.lt.toNat + 1) % 2 ^ 32 = 24 * s.cfg.nPix * s.ltbit.toNat + s.ltrst.toNat →
      exec .clk s = .next { s with
        out := .lineLevel s.ledDout, lt := 0, lbusy := false, irqPend := s.irqPend ||| 0b010#3 })

/-- R194, from R193 and R202: an accepted burst keeps LBUSY = 1 for exactly 24·N_PIX·LTBIT + LTRST CLKs, then ends
and sets IRQ_PEND.LDONE. -/
def Obligations.AcceptedBurstLastsTotalClks : Prop :=
  ∀ (s t : State) (v : Word), s.cfg.wf → s.lbusy = false → v.getLsbD 0 = true →
    exec (.wrLedCtrl v) s = .next t → t.lbusy = true →
    let total := 24 * s.cfg.nPix * s.ledTbit.toNat + s.ledTrst.toNat
    ∀ n, n ≤ total →
      ∃ u, runInstrs (List.replicate n .clk) t = .next u ∧
        (n < total → u.lbusy = true ∧ u.lt.toNat = n ∧ u.irqPend = s.irqPend) ∧
        (n = total → u.lbusy = false ∧ u.lt = 0 ∧ u.irqPend = s.irqPend ||| 0b010#3)

/-- R67, R191, R192, R193, R203: the waveform of a burst, from the pixel RAM (PIXSRC = 0) or rendered from the LIGHT
registers as they stand at the request (PIXSRC = 1): bit k of byte c of pixel i goes out at its own place as a pulse of
T1H or T0H cycles in a period of TBIT, green, red, blue, most significant bit first, and the line is low for the reset
interval after the last bit. -/
def Obligations.BurstWaveformSendsPixels : Prop :=
  ∀ (s t : State) (v : Word), Inv s → s.lbusy = false → v.getLsbD 0 = true →
    exec (.wrLedCtrl v) s = .next t → t.lbusy = true →
    (∀ i c k j : Nat, ∀ p : Rgb, i < s.cfg.nPix → c < 3 → k < 8 → j < s.ledTbit.toNat →
      (v.getLsbD 1 = false → s.pix[i]? = some p) →
      (v.getLsbD 1 = true → p =
        if s.light.extractLsb' 0 2 = 1#2 ∨ (s.light.extractLsb' 0 2 = 2#2 ∧ s.light.getLsbD 4 = true) ∨
            (s.light.extractLsb' 0 2 = 3#2 ∧ i = (s.lightPos.extractLsb' 0 8).toNat)
        then s.lightRgb.extractLsb' 0 24 else 0) →
      let bit := p.getLsbD (if c = 0 then 15 - k else if c = 1 then 23 - k else 7 - k)
      let high := if bit then s.ledT1h.toNat else s.ledT0h.toNat
      ∃ u x, runInstrs (List.replicate ((24 * i + 8 * c + k) * s.ledTbit.toNat + j) .clk) t = .next u ∧
        exec .clk u = .next x ∧ x.out = .lineLevel (decide (j < high))) ∧
    (∀ j, j < s.ledTrst.toNat →
      ∃ u x, runInstrs (List.replicate (24 * s.cfg.nPix * s.ledTbit.toNat + j) .clk) t = .next u ∧
        exec .clk u = .next x ∧ x.out = .lineLevel false)

/-- R214: only CLK advances an accepted burst and only RESET stops it: no other operation changes its bits, its
timing, LT, or the level of the line. -/
def Obligations.OnlyClkAndResetTouchBurst : Prop :=
  ∀ (i : Instr) (s t : State), s.lbusy = true → exec i s = .next t → i ≠ .clk → i ≠ .reset →
    t.lbusy = true ∧ t.lbits = s.lbits ∧ t.lt = s.lt ∧ t.lt0h = s.lt0h ∧ t.lt1h = s.lt1h ∧ t.ltbit = s.ltbit ∧
    t.ltrst = s.ltrst ∧ t.ledDout = s.ledDout ∧ t.pix = s.pix ∧ t.ledT0h = s.ledT0h ∧ t.ledT1h = s.ledT1h ∧
    t.ledTbit = s.ledTbit ∧ t.ledTrst = s.ledTrst

/-- R199, R200, R205, R207, R209, R211: the encoder's control, status and timing reads. -/
def Obligations.LedRegisterReads : Prop :=
  ∀ s : State,
    (∃ w : Word, exec .rdLedCtrl s = .next { s with out := .readData w } ∧ w.toNat = 2 * s.pixsrc.toNat) ∧
    (∃ w : Word, exec .rdLedStat s = .next { s with out := .readData w } ∧
      w.toNat = 8 * s.rdrop.toNat + 4 * s.wdrop.toNat + 2 * s.cfgerr.toNat + s.lbusy.toNat) ∧
    (∃ w : Word, exec .rdLedT0h s = .next { s with out := .readData w } ∧ w.toNat = s.ledT0h.toNat) ∧
    (∃ w : Word, exec .rdLedT1h s = .next { s with out := .readData w } ∧ w.toNat = s.ledT1h.toNat) ∧
    (∃ w : Word, exec .rdLedTbit s = .next { s with out := .readData w } ∧ w.toNat = s.ledTbit.toNat) ∧
    (∃ w : Word, exec .rdLedTrst s = .next { s with out := .readData w } ∧ w.toNat = s.ledTrst.toNat) ∧
    (encode .rdLedCtrl).desc = 0x0070#16 ∧ (encode .rdLedStat).desc = 0x0074#16 ∧ (encode .rdLedT0h).desc = 0x0078#16 ∧
    (encode .rdLedT1h).desc = 0x007C#16 ∧ (encode .rdLedTbit).desc = 0x0080#16 ∧ (encode .rdLedTrst).desc = 0x0084#16

/-- R204, R206, R208, R210: a timing write takes bits [15:0] when idle and is dropped with WDROP and X6
(conds: log entry 8) while BUSY. -/
def Obligations.TimingWritesDroppedWhileBusy : Prop :=
  ∀ (s : State) (v : Word),
    (s.lbusy = false →
      exec (.wrLedT0h v) s = .next { s with ledT0h := v.extractLsb' 0 16 } ∧
      exec (.wrLedT1h v) s = .next { s with ledT1h := v.extractLsb' 0 16 } ∧
      exec (.wrLedTbit v) s = .next { s with ledTbit := v.extractLsb' 0 16 } ∧
      exec (.wrLedTrst v) s = .next { s with ledTrst := v.extractLsb' 0 16 }) ∧
    (s.lbusy = true → ∀ i ∈ [Instr.wrLedT0h v, .wrLedT1h v, .wrLedTbit v, .wrLedTrst v],
      exec i s = .next { s with wdrop := true, conds := s.conds ++ [.writeWhileBusy] }) ∧
    (encode (.wrLedT0h v)).desc = 0x4078#16 ∧ (encode (.wrLedT1h v)).desc = 0x407C#16 ∧
    (encode (.wrLedTbit v)).desc = 0x4080#16 ∧ (encode (.wrLedTrst v)).desc = 0x4084#16

/-- R201: a write to LED_STAT clears the sticky bits written as 1 and nothing else; BUSY is read-only. -/
def Obligations.LedStatusWriteClearsOnes : Prop :=
  ∀ (s : State) (v : Word), (encode (.wrLedStat v)).desc = 0x4074#16 ∧
    ∃ t, exec (.wrLedStat v) s = .next t ∧ t = { s with cfgerr := t.cfgerr, wdrop := t.wdrop, rdrop := t.rdrop } ∧
      (v.getLsbD 1 = true → t.cfgerr = false) ∧ (v.getLsbD 1 = false → t.cfgerr = s.cfgerr) ∧
      (v.getLsbD 2 = true → t.wdrop = false) ∧ (v.getLsbD 2 = false → t.wdrop = s.wdrop) ∧
      (v.getLsbD 3 = true → t.rdrop = false) ∧ (v.getLsbD 3 = false → t.rdrop = s.rdrop)

/-- R212: a pixel write stores bits [23:0] in its own word only, is dropped with WDROP while BUSY, and past the strip
does nothing, even while BUSY (R255). X6 and X7 stand in conds (log entry 8). -/
def Obligations.PixelWriteStoresOneWord : Prop :=
  ∀ (s : State) (i : BitVec 8) (v : Word), Memory.wf s.cfg.nPix s.pix →
    (encode (.wrPix i v)).desc.toNat = 0x4400 + 4 * i.toNat ∧
    (s.cfg.nPix ≤ i.toNat → exec (.wrPix i v) s = .next { s with conds := s.conds ++ [.ignoredAccess] }) ∧
    (i.toNat < s.cfg.nPix → s.lbusy = true →
      exec (.wrPix i v) s = .next { s with wdrop := true, conds := s.conds ++ [.writeWhileBusy] }) ∧
    (i.toNat < s.cfg.nPix → s.lbusy = false →
      ∃ t, exec (.wrPix i v) s = .next t ∧ t = { s with pix := t.pix } ∧ t.pix.length = s.cfg.nPix ∧
        ∀ j, j < s.cfg.nPix → t.pix[j]? = if j = i.toNat then some (v.extractLsb' 0 24) else s.pix[j]?)

/-- R213: a pixel read returns the word, zero-extended, busy or not; past the strip it returns 0, and signals nothing
(R213) or X7 (R251) as the model's own parameter pixReadSignals says (log entry 10; conds: log entry 8). -/
def Obligations.PixelReadReturnsWord : Prop :=
  ∀ (s : State) (i : BitVec 8), Memory.wf s.cfg.nPix s.pix →
    (encode (.rdPix i)).desc.toNat = 0x0400 + 4 * i.toNat ∧
    (s.cfg.nPix ≤ i.toNat → s.cfg.pixReadSignals = false → exec (.rdPix i) s = .next { s with out := .readData 0 }) ∧
    (s.cfg.nPix ≤ i.toNat → s.cfg.pixReadSignals = true →
      exec (.rdPix i) s = .next { s with out := .readData 0, conds := s.conds ++ [.ignoredAccess] }) ∧
    (i.toNat < s.cfg.nPix → ∃ (p : Rgb) (w : Word), s.pix[i.toNat]? = some p ∧ w.toNat = p.toNat ∧
      exec (.rdPix i) s = .next { s with out := .readData w })

/-! ### Reset and clock cycles -/

/-- R52, R272, R274: RESET, in any state, loads every reset value, stops a burst without LDONE, drops the outputs,
and gives every pixel word a newly drawn value, of which nothing is known (the free values of log entry 6). -/
def Obligations.ResetLoadsEveryResetValue : Prop :=
  ∀ s : State, (encode .reset).desc = 0x8003#16 ∧
    ∃ t, exec .reset s = .next t ∧
      t.dstate = .awaitSync1 ∧ t.dcnt = 0 ∧ (∀ j : Fin 32, t.dbuf[j] = 0) ∧
      (∀ k : Fin 15, t.mb[k] = 0 ∧ t.snap[k] = 0) ∧ t.fresh = false ∧ t.ovr = false ∧
      t.scnt = 0 ∧ t.stale = false ∧ t.rss = false ∧ t.arbIn = 0 ∧ t.arbCfg = 0 ∧ t.arbStat = 0 ∧
      t.light = 0 ∧ t.lightRgb = 0 ∧ t.lightPos = 0 ∧ t.tick = 0 ∧ t.pixsrc = false ∧
      t.cfgerr = false ∧ t.wdrop = false ∧ t.rdrop = false ∧
      t.ledT0h.toNat = 6 ∧ t.ledT1h.toNat = 13 ∧ t.ledTbit.toNat = 20 ∧ t.ledTrst.toNat = 960 ∧
      t.irqPend = 0 ∧ t.irqEn = 0 ∧ t.lbusy = false ∧ t.lt = 0 ∧ t.lbits = [] ∧
      t.lt0h = 0 ∧ t.lt1h = 0 ∧ t.ltbit = 0 ∧ t.ltrst = 0 ∧
      t.ledDout = false ∧ t.buzzO = false ∧ t.irqO = false ∧
      t.cfg = s.cfg ∧ t.pix.length = s.cfg.nPix ∧ t.draws = s.draws + s.cfg.nPix ∧
      ∀ i, i < s.cfg.nPix → t.pix[i]? = some (Config.freePixel (s.draws + i))

/-- R255: in one clock cycle the bus access comes first, then the RX byte, the TICK and the encoder's cycle; so a
publish in the cycle of an acknowledge leaves REC pending, and so does the end of a burst LDONE. The publish is by a frame whose last byte arrives in that cycle. -/
def Obligations.EventsOfCycleSurviveItsAcknowledge : Prop :=
  ∀ (s : State) (v : Word) (d : Byte) (tick : Bool), s.pending = [] →
    let p : PortInputs := { rstN := true, bus := some { write := true, addr := 0x088#12, wdata := v }, rx := some d, tick := tick }
    ∃ t, Sys2Proof.core.run p.ops.length (s.presentCycle p) = .next t ∧ t.pending = [] ∧
      (s.dstate = .collecting → s.dcnt = 31 →
        (∑ j : Fin 30, s.dbuf[j.val].toNat) % 65536 = 256 * s.dbuf[30].toNat + d.toNat →
        t.irqPend.getLsbD 0 = true ∧ t.fresh = true) ∧
      (s.lbusy = true → (s.lt.toNat + 1) % 2 ^ 32 = 24 * s.cfg.nPix * s.ltbit.toNat + s.ltrst.toNat →
        t.irqPend.getLsbD 1 = true ∧ t.lbusy = false) ∧
      t.tick.toNat = (s.tick.toNat + tick.toNat) % 2 ^ 32

/-- R271, R231: in a cycle with rst_n = 0 the block takes its reset state and ignores the bus access, the RX byte and the
TICK pulse, whatever the other ports say: the state after it is RESET's. A read of ID alone still returns its constant,
and any other access returns no data (that these two rules go together so is the model's reading, log entry 12). -/
def Obligations.ResetCycleIgnoresOtherPorts : Prop :=
  ∀ (s : State) (p : PortInputs), s.pending = [] → p.rstN = false →
    ∃ r t, exec .reset s = .next r ∧ Sys2Proof.core.run p.ops.length (s.presentCycle p) = .next t ∧
      t = { r with out := t.out } ∧ t.ledDout = false ∧ t.irqO = false ∧ t.buzzO = false ∧
      ((∃ v, p.bus = some { write := false, addr := 0x000#12, wdata := v }) → t.out = .readData 0x56330001#32) ∧
      ((∀ v, p.bus ≠ some { write := false, addr := 0x000#12, wdata := v }) → t.out = .none)
end

