-- ==== Sys2Proof/Laws/Fields.lean ====
section
/-! SUPPORT. The assembled register words as numbers, and the fields read back from them: a proof about a register
cites these and never takes a concatenation apart again. -/

namespace Sys2Proof.Machine

/-- A concatenation as a number: the high part counts 2^w. -/
theorem toNat_append_eq {v w : Nat} (x : BitVec v) (y : BitVec w) : (x ++ y).toNat = x.toNat * 2 ^ w + y.toNat := by
  rw [BitVec.toNat_append, ← Nat.shiftLeft_add_eq_or_of_lt y.isLt, Nat.shiftLeft_eq]

/-- A field of a word as a number. -/
theorem extract_toNat {w : Nat} (lo len : Nat) (x : BitVec w) :
    (x.extractLsb' lo len).toNat = x.toNat / 2 ^ lo % 2 ^ len := by
  rw [BitVec.extractLsb'_toNat, Nat.shiftRight_eq_div_pow]

/-- A bit of a word as a number. -/
theorem getLsbD_iff {w : Nat} (x : BitVec w) (k : Nat) : x.getLsbD k = decide (x.toNat / 2 ^ k % 2 = 1) := by
  rw [BitVec.getLsbD, Nat.testBit_eq_decide_div_mod_eq]

/-! ### Codes -/

theorem DState.code_lt (st : DState) : st.code.toNat < 3 := by cases st <;> decide
theorem Status.code_lt (st : Status) : st.code.toNat < 4 := st.code.isLt
theorem Cause.code_lt (c : Cause) : c.code.toNat < 7 := by cases c <;> decide
theorem Kind.code_lt (k : Kind) : k.code.toNat < 4 := k.code.isLt
@[simp] theorem kindOfCode_code (k : Kind) : kindOfCode k.code = k := by cases k <;> decide
theorem Cause.code_injective {a b : Cause} (h : a.code = b.code) : a = b := by
  cases a <;> cases b <;> first | rfl | exact absurd h (by decide)

/-! ### The words reads assemble (R87) -/

theorem decStatWord_toNat (st : DState) (n : Fin 32) : (decStatWord st n).toNat = 256 * n.val + st.code.toNat := by
  unfold decStatWord
  rw [toNat_append_eq, toNat_append_eq, toNat_append_eq]
  have : (BitVec.ofFin (w := 5) n).toNat = n.val := rfl
  simp only [this, BitVec.toNat_ofNat]
  omega

theorem mbStatWord_toNat (ovr fresh : Bool) : (mbStatWord ovr fresh).toNat = 2 * ovr.toNat + fresh.toNat := by
  cases ovr <;> cases fresh <;> decide

theorem staleWord_toNat (rss stale : Bool) (scnt : Byte) :
    (staleWord rss stale scnt).toNat = 512 * rss.toNat + 256 * stale.toNat + scnt.toNat := by
  unfold staleWord
  rw [toNat_append_eq, toNat_append_eq, toNat_append_eq, BitVec.toNat_ofBool, BitVec.toNat_ofBool]
  simp only [BitVec.toNat_ofNat]
  omega

theorem ledCtrlWord_toNat (pixsrc : Bool) : (ledCtrlWord pixsrc).toNat = 2 * pixsrc.toNat := by
  cases pixsrc <;> decide

theorem ledStatWord_toNat (rdrop wdrop cfgerr busy : Bool) : (ledStatWord rdrop wdrop cfgerr busy).toNat =
    8 * rdrop.toNat + 4 * wdrop.toNat + 2 * cfgerr.toNat + busy.toNat := by
  cases rdrop <;> cases wdrop <;> cases cfgerr <;> cases busy <;> decide

theorem irqWord_toNat (b : BitVec 3) : (irqWord b).toNat = b.toNat := by
  unfold irqWord
  rw [toNat_append_eq]
  simp

theorem halfWord_toNat (h : Half) : (halfWord h).toNat = h.toNat := by
  have := h.isLt
  simp [halfWord, BitVec.toNat_setWidth]
  omega

theorem pixelWord_toNat (p : Rgb) : (pixelWord p).toNat = p.toNat := by
  have := p.isLt
  simp [pixelWord, BitVec.toNat_setWidth]
  omega

theorem bigEndian_toNat (hi lo : Byte) : (bigEndian hi lo).toNat = 256 * hi.toNat + lo.toNat := by
  unfold bigEndian
  rw [toNat_append_eq]
  omega

/-! ### The words a STEP commits (R156) -/

theorem arbStatWord_toNat (dur : Byte) (fcode : BitVec 2) (any sound : Bool) (cause : Cause) (status : Status) :
    (arbStatWord dur fcode any sound cause status).toNat =
      65536 * dur.toNat + 4096 * fcode.toNat + 512 * any.toNat + 256 * sound.toNat + 16 * cause.code.toNat +
        status.code.toNat := by
  unfold arbStatWord
  repeat rw [toNat_append_eq]
  rw [BitVec.toNat_ofBool, BitVec.toNat_ofBool]
  simp only [BitVec.toNat_ofNat]
  omega

section
variable (dur : Byte) (fcode : BitVec 2) (any sound : Bool) (cause : Cause) (status : Status)

@[simp] theorem statStatus_arbStatWord : statStatus (arbStatWord dur fcode any sound cause status) = status.code := by
  apply BitVec.eq_of_toNat_eq
  have := status.code_lt
  rw [statStatus, extract_toNat, arbStatWord_toNat]
  omega

@[simp] theorem statCause_arbStatWord : statCause (arbStatWord dur fcode any sound cause status) = cause.code := by
  apply BitVec.eq_of_toNat_eq
  have := status.code_lt
  have := cause.code_lt
  rw [statCause, extract_toNat, arbStatWord_toNat]
  omega

@[simp] theorem statFaultCode_arbStatWord : statFaultCode (arbStatWord dur fcode any sound cause status) = fcode := by
  apply BitVec.eq_of_toNat_eq
  have := status.code_lt
  have := cause.code_lt
  have := any.toNat_le
  have := sound.toNat_le
  have := fcode.isLt
  rw [statFaultCode, extract_toNat, arbStatWord_toNat]
  omega

@[simp] theorem statDur_arbStatWord : statDur (arbStatWord dur fcode any sound cause status) = dur := by
  apply BitVec.eq_of_toNat_eq
  have := status.code_lt
  have := cause.code_lt
  have := any.toNat_le
  have := sound.toNat_le
  have := fcode.isLt
  have := dur.isLt
  rw [statDur, extract_toNat, arbStatWord_toNat]
  omega

@[simp] theorem statSound_arbStatWord : statSound (arbStatWord dur fcode any sound cause status) = sound := by
  have := status.code_lt
  have := cause.code_lt
  rw [statSound, getLsbD_iff, arbStatWord_toNat]
  cases sound <;> simp only [Bool.toNat_true, Bool.toNat_false, decide_eq_true_eq, decide_eq_false_iff_not] <;> omega

@[simp] theorem statAlarmAny_arbStatWord : statAlarmAny (arbStatWord dur fcode any sound cause status) = any := by
  have := status.code_lt
  have := cause.code_lt
  have := sound.toNat_le
  rw [statAlarmAny, getLsbD_iff, arbStatWord_toNat]
  cases any <;> simp only [Bool.toNat_true, Bool.toNat_false, decide_eq_true_eq, decide_eq_false_iff_not] <;> omega

/-- R33: the reserved bits of ARB_STAT are committed as 0. -/
theorem arbStatWord_reserved : arbStatWord dur fcode any sound cause status &&& 0xFF00CC8C#32 = 0 := by
  have := status.code_lt
  have := cause.code_lt
  have := any.toNat_le
  have := sound.toNat_le
  have := fcode.isLt
  have := dur.isLt
  have hn := arbStatWord_toNat dur fcode any sound cause status
  apply BitVec.eq_of_getLsbD_eq
  intro i hi
  rw [BitVec.getLsbD_and]
  have key : ∀ k ∈ [2, 3, 7, 10, 11, 14, 15, 24, 25, 26, 27, 28, 29, 30, 31],
      (arbStatWord dur fcode any sound cause status).getLsbD k = false := by
    intro k hk
    rw [getLsbD_iff, hn, decide_eq_false_iff_not]
    simp only [List.mem_cons, List.not_mem_nil, or_false] at hk
    rcases hk with rfl | rfl | rfl | rfl | rfl | rfl | rfl | rfl | rfl | rfl | rfl | rfl | rfl | rfl | rfl <;> omega
  by_cases hm : i ∈ [2, 3, 7, 10, 11, 14, 15, 24, 25, 26, 27, 28, 29, 30, 31]
  · rw [key i hm]
    simp
  · have : (0xFF00CC8C#32).getLsbD i = false := by
      revert hm
      revert i
      decide
    rw [this]
    simp

end

theorem lightWord_toNat (period : Byte) (lit : Bool) (kind : Kind) :
    (lightWord period lit kind).toNat = 256 * period.toNat + 16 * lit.toNat + kind.code.toNat := by
  unfold lightWord
  repeat rw [toNat_append_eq]
  rw [BitVec.toNat_ofBool]
  simp only [BitVec.toNat_ofNat]
  omega

section
variable (period : Byte) (lit : Bool) (kind : Kind)

@[simp] theorem lightKind_lightWord : lightKind (lightWord period lit kind) = kind.code := by
  apply BitVec.eq_of_toNat_eq
  have := kind.code_lt
  rw [lightKind, extract_toNat, lightWord_toNat]
  omega

@[simp] theorem lightPeriod_lightWord : lightPeriod (lightWord period lit kind) = period := by
  apply BitVec.eq_of_toNat_eq
  have := kind.code_lt
  have := lit.toNat_le
  have := period.isLt
  rw [lightPeriod, extract_toNat, lightWord_toNat]
  omega

@[simp] theorem lightLit_lightWord : lightLit (lightWord period lit kind) = lit := by
  have := kind.code_lt
  rw [lightLit, getLsbD_iff, lightWord_toNat]
  cases lit <;> simp only [Bool.toNat_true, Bool.toNat_false, decide_eq_true_eq, decide_eq_false_iff_not] <;> omega

/-- R34: the reserved bits of LIGHT are committed as 0. -/
theorem lightWord_reserved : lightWord period lit kind &&& 0xFFFF00EC#32 = 0 := by
  have := kind.code_lt
  have := lit.toNat_le
  have := period.isLt
  have hn := lightWord_toNat period lit kind
  apply BitVec.eq_of_getLsbD_eq
  intro i hi
  rw [BitVec.getLsbD_and]
  by_cases hm : i ∈ [2, 3, 5, 6, 7] ∨ 16 ≤ i
  · have : (lightWord period lit kind).getLsbD i = false := by
      rw [getLsbD_iff, hn, decide_eq_false_iff_not]
      rcases hm with hk | hk
      · simp only [List.mem_cons, List.not_mem_nil, or_false] at hk
        rcases hk with rfl | rfl | rfl | rfl | rfl <;> omega
      · have : 2 ^ 16 ≤ 2 ^ i := Nat.pow_le_pow_right (by decide) hk
        rw [Nat.div_eq_of_lt (by omega)]
        decide
    rw [this]
    simp
  · have : (0xFFFF00EC#32).getLsbD i = false := by
      revert hm
      revert i
      decide
    rw [this]
    simp

end

theorem lightRgbWord_toNat (rgb : Rgb) : (lightRgbWord rgb).toNat = rgb.toNat := by
  unfold lightRgbWord
  rw [toNat_append_eq]
  simp

theorem lightPosWord_toNat (pos : Byte) : (lightPosWord pos).toNat = pos.toNat := by
  unfold lightPosWord
  rw [toNat_append_eq]
  simp

@[simp] theorem lightPosIndex_lightPosWord (pos : Byte) : lightPosIndex (lightPosWord pos) = pos := by
  apply BitVec.eq_of_toNat_eq
  have := pos.isLt
  rw [lightPosIndex, extract_toNat, lightPosWord_toNat]
  omega

/-- A word below 2^k has no bit of a mask that lies at k and above. -/
theorem and_high_mask_eq_zero {x m : Word} {k : Nat} (hx : x.toNat < 2 ^ k) (hm : ∀ i, i < k → m.getLsbD i = false) :
    x &&& m = 0 := by
  apply BitVec.eq_of_getLsbD_eq
  intro i _
  rw [BitVec.getLsbD_and]
  by_cases h : i < k
  · simp [hm i h]
  · have : 2 ^ k ≤ 2 ^ i := Nat.pow_le_pow_right (by decide) (by omega)
    rw [getLsbD_iff x, Nat.div_eq_of_lt (by omega)]
    simp

/-- R35: the high byte of LIGHT_RGB is committed as 0. -/
theorem lightRgbWord_reserved (rgb : Rgb) : lightRgbWord rgb &&& 0xFF000000#32 = 0 :=
  and_high_mask_eq_zero (k := 24) (by rw [lightRgbWord_toNat]; exact rgb.isLt) (by decide)

/-- R36: the bits above the index of LIGHT_POS are committed as 0. -/
theorem lightPosWord_reserved (pos : Byte) : lightPosWord pos &&& 0xFFFFFF00#32 = 0 :=
  and_high_mask_eq_zero (k := 8) (by rw [lightPosWord_toNat]; exact pos.isLt) (by decide)

/-- R30, R31: a value masked by m has no bit outside m. -/
theorem masked_reserved (v m : Word) : v &&& m &&& ~~~m = 0 := by
  apply BitVec.eq_of_getLsbD_eq
  intro i hi
  simp only [BitVec.getLsbD_and, BitVec.getLsbD_not]
  cases v.getLsbD i <;> cases m.getLsbD i <;> simp

end Sys2Proof.Machine
end

