-- ==== Sys2Proof/Laws/Memory.lean ====
section
/-! SUPPORT. The pixel RAM and the bit sequence made from it: every memory operation keeps the RAM's form, a read
after a write gives the value written, a write leaves the other words alone (R46, R212), and each bit of the strip
stands where R192 puts it. -/

namespace Sys2Proof.Machine

/-! ### Pixel RAM -/

@[simp] theorem Memory.write_length (m : Memory) (i : Nat) (v : Rgb) : (m.write i v).length = m.length := by
  simp [Memory.write]

theorem Memory.write_wf {n : Nat} {m : Memory} (i : Nat) (v : Rgb) (h : Memory.wf n m) : Memory.wf n (m.write i v) := by
  simpa [Memory.wf] using h

theorem Memory.read_write_same {n : Nat} {m : Memory} {i : Nat} (v : Rgb) (h : Memory.wf n m) (hi : i < n) :
    (m.write i v).read i = v := by
  have : i < m.length := by rw [show m.length = n from h]; exact hi
  simp [Memory.read, Memory.write, List.getD_eq_getElem?_getD, this]

theorem Memory.read_write_other (m : Memory) {i j : Nat} (v : Rgb) (h : j ≠ i) : (m.write i v).read j = m.read j := by
  simp [Memory.read, Memory.write, List.getD_eq_getElem?_getD, List.getElem?_set_ne (Ne.symm h)]

theorem Memory.getElem?_eq_read {n : Nat} {m : Memory} {i : Nat} (h : Memory.wf n m) (hi : i < n) :
    m[i]? = some (m.read i) := by
  have : i < m.length := by rw [show m.length = n from h]; exact hi
  simp [Memory.read, List.getD_eq_getElem?_getD, List.getElem?_eq_getElem this]

@[simp] theorem drawPixels_length (k n : Nat) : (drawPixels k n).length = n := by simp [drawPixels]

theorem drawPixels_getElem? {k n i : Nat} (h : i < n) : (drawPixels k n)[i]? = some (Config.freePixel (k + i)) := by
  simp [drawPixels, h]

/-! ### The bits of the strip (R192) -/

@[simp] theorem pixelBits_length (p : Rgb) : (pixelBits p).length = 24 := by simp [pixelBits, byteBits]

theorem flatMap_length_const {α β : Type} (l : List α) (f : α → List β) {k : Nat} (h : ∀ a, (f a).length = k) :
    (l.flatMap f).length = k * l.length := by
  induction l with
  | nil => simp
  | cons a l ih => simp [h a, ih, Nat.mul_succ, Nat.add_comm]

@[simp] theorem stripBits_length (n : Nat) (f : Nat → Rgb) : (stripBits n f).length = 24 * n := by
  rw [stripBits, flatMap_length_const (k := 24) _ _ (fun i => pixelBits_length (f i)), List.length_range]

theorem stripBits_succ (n : Nat) (f : Nat → Rgb) : stripBits (n + 1) f = stripBits n f ++ pixelBits (f n) := by
  simp [stripBits, List.range_succ, List.flatMap_append]

/-- Bit r of pixel i stands at 24·i + r. -/
theorem stripBits_getElem? {n i r : Nat} (f : Nat → Rgb) (hi : i < n) (hr : r < 24) :
    (stripBits n f)[24 * i + r]? = (pixelBits (f i))[r]? := by
  induction n with
  | zero => omega
  | succ n ih =>
    rw [stripBits_succ]
    by_cases h : i < n
    · rw [List.getElem?_append_left (by rw [stripBits_length]; omega), ih h]
    · have : i = n := by omega
      subst this
      rw [List.getElem?_append_right (by rw [stripBits_length]; omega), stripBits_length]
      congr 1
      omega

/-- Where R192 puts bit 7-k of the green, red and blue byte of a pixel. -/
theorem pixelBits_getElem? (p : Rgb) {k : Nat} (hk : k < 8) :
    (pixelBits p)[k]? = some (p.getLsbD (15 - k)) ∧ (pixelBits p)[8 + k]? = some (p.getLsbD (23 - k)) ∧
      (pixelBits p)[16 + k]? = some (p.getLsbD (7 - k)) := by
  have : k = 0 ∨ k = 1 ∨ k = 2 ∨ k = 3 ∨ k = 4 ∨ k = 5 ∨ k = 6 ∨ k = 7 := by omega
  rcases this with rfl | rfl | rfl | rfl | rfl | rfl | rfl | rfl <;>
    simp [pixelBits, byteBits, rgbGreen, rgbRed, rgbBlue]

end Sys2Proof.Machine
end

