-- ==== Sys2Proof/Laws/State.lean ====
section
/-! SUPPORT. What each basic update does to each field of the state: one lemma for each field of each update, so that
no proof unfolds a record update. -/

namespace Sys2Proof.Machine

variable (s : State)

/-! ### State.returns -/

@[simp] theorem State.returns_cfg (v : Word) : (s.returns v).cfg = s.cfg := rfl
@[simp] theorem State.returns_dstate (v : Word) : (s.returns v).dstate = s.dstate := rfl
@[simp] theorem State.returns_dcnt (v : Word) : (s.returns v).dcnt = s.dcnt := rfl
@[simp] theorem State.returns_dbuf (v : Word) : (s.returns v).dbuf = s.dbuf := rfl
@[simp] theorem State.returns_mb (v : Word) : (s.returns v).mb = s.mb := rfl
@[simp] theorem State.returns_fresh (v : Word) : (s.returns v).fresh = s.fresh := rfl
@[simp] theorem State.returns_ovr (v : Word) : (s.returns v).ovr = s.ovr := rfl
@[simp] theorem State.returns_snap (v : Word) : (s.returns v).snap = s.snap := rfl
@[simp] theorem State.returns_scnt (v : Word) : (s.returns v).scnt = s.scnt := rfl
@[simp] theorem State.returns_stale (v : Word) : (s.returns v).stale = s.stale := rfl
@[simp] theorem State.returns_rss (v : Word) : (s.returns v).rss = s.rss := rfl
@[simp] theorem State.returns_arbIn (v : Word) : (s.returns v).arbIn = s.arbIn := rfl
@[simp] theorem State.returns_arbCfg (v : Word) : (s.returns v).arbCfg = s.arbCfg := rfl
@[simp] theorem State.returns_arbStat (v : Word) : (s.returns v).arbStat = s.arbStat := rfl
@[simp] theorem State.returns_light (v : Word) : (s.returns v).light = s.light := rfl
@[simp] theorem State.returns_lightRgb (v : Word) : (s.returns v).lightRgb = s.lightRgb := rfl
@[simp] theorem State.returns_lightPos (v : Word) : (s.returns v).lightPos = s.lightPos := rfl
@[simp] theorem State.returns_tick (v : Word) : (s.returns v).tick = s.tick := rfl
@[simp] theorem State.returns_pixsrc (v : Word) : (s.returns v).pixsrc = s.pixsrc := rfl
@[simp] theorem State.returns_cfgerr (v : Word) : (s.returns v).cfgerr = s.cfgerr := rfl
@[simp] theorem State.returns_wdrop (v : Word) : (s.returns v).wdrop = s.wdrop := rfl
@[simp] theorem State.returns_rdrop (v : Word) : (s.returns v).rdrop = s.rdrop := rfl
@[simp] theorem State.returns_ledT0h (v : Word) : (s.returns v).ledT0h = s.ledT0h := rfl
@[simp] theorem State.returns_ledT1h (v : Word) : (s.returns v).ledT1h = s.ledT1h := rfl
@[simp] theorem State.returns_ledTbit (v : Word) : (s.returns v).ledTbit = s.ledTbit := rfl
@[simp] theorem State.returns_ledTrst (v : Word) : (s.returns v).ledTrst = s.ledTrst := rfl
@[simp] theorem State.returns_irqPend (v : Word) : (s.returns v).irqPend = s.irqPend := rfl
@[simp] theorem State.returns_irqEn (v : Word) : (s.returns v).irqEn = s.irqEn := rfl
@[simp] theorem State.returns_lbusy (v : Word) : (s.returns v).lbusy = s.lbusy := rfl
@[simp] theorem State.returns_lt (v : Word) : (s.returns v).lt = s.lt := rfl
@[simp] theorem State.returns_lbits (v : Word) : (s.returns v).lbits = s.lbits := rfl
@[simp] theorem State.returns_lt0h (v : Word) : (s.returns v).lt0h = s.lt0h := rfl
@[simp] theorem State.returns_lt1h (v : Word) : (s.returns v).lt1h = s.lt1h := rfl
@[simp] theorem State.returns_ltbit (v : Word) : (s.returns v).ltbit = s.ltbit := rfl
@[simp] theorem State.returns_ltrst (v : Word) : (s.returns v).ltrst = s.ltrst := rfl
@[simp] theorem State.returns_pix (v : Word) : (s.returns v).pix = s.pix := rfl
@[simp] theorem State.returns_draws (v : Word) : (s.returns v).draws = s.draws := rfl
@[simp] theorem State.returns_pending (v : Word) : (s.returns v).pending = s.pending := rfl
@[simp] theorem State.returns_out (v : Word) : (s.returns v).out = .readData v := rfl
@[simp] theorem State.returns_conds (v : Word) : (s.returns v).conds = s.conds := rfl

/-! ### State.drives -/

@[simp] theorem State.drives_cfg (b : Bool) : (s.drives b).cfg = s.cfg := rfl
@[simp] theorem State.drives_dstate (b : Bool) : (s.drives b).dstate = s.dstate := rfl
@[simp] theorem State.drives_dcnt (b : Bool) : (s.drives b).dcnt = s.dcnt := rfl
@[simp] theorem State.drives_dbuf (b : Bool) : (s.drives b).dbuf = s.dbuf := rfl
@[simp] theorem State.drives_mb (b : Bool) : (s.drives b).mb = s.mb := rfl
@[simp] theorem State.drives_fresh (b : Bool) : (s.drives b).fresh = s.fresh := rfl
@[simp] theorem State.drives_ovr (b : Bool) : (s.drives b).ovr = s.ovr := rfl
@[simp] theorem State.drives_snap (b : Bool) : (s.drives b).snap = s.snap := rfl
@[simp] theorem State.drives_scnt (b : Bool) : (s.drives b).scnt = s.scnt := rfl
@[simp] theorem State.drives_stale (b : Bool) : (s.drives b).stale = s.stale := rfl
@[simp] theorem State.drives_rss (b : Bool) : (s.drives b).rss = s.rss := rfl
@[simp] theorem State.drives_arbIn (b : Bool) : (s.drives b).arbIn = s.arbIn := rfl
@[simp] theorem State.drives_arbCfg (b : Bool) : (s.drives b).arbCfg = s.arbCfg := rfl
@[simp] theorem State.drives_arbStat (b : Bool) : (s.drives b).arbStat = s.arbStat := rfl
@[simp] theorem State.drives_light (b : Bool) : (s.drives b).light = s.light := rfl
@[simp] theorem State.drives_lightRgb (b : Bool) : (s.drives b).lightRgb = s.lightRgb := rfl
@[simp] theorem State.drives_lightPos (b : Bool) : (s.drives b).lightPos = s.lightPos := rfl
@[simp] theorem State.drives_tick (b : Bool) : (s.drives b).tick = s.tick := rfl
@[simp] theorem State.drives_pixsrc (b : Bool) : (s.drives b).pixsrc = s.pixsrc := rfl
@[simp] theorem State.drives_cfgerr (b : Bool) : (s.drives b).cfgerr = s.cfgerr := rfl
@[simp] theorem State.drives_wdrop (b : Bool) : (s.drives b).wdrop = s.wdrop := rfl
@[simp] theorem State.drives_rdrop (b : Bool) : (s.drives b).rdrop = s.rdrop := rfl
@[simp] theorem State.drives_ledT0h (b : Bool) : (s.drives b).ledT0h = s.ledT0h := rfl
@[simp] theorem State.drives_ledT1h (b : Bool) : (s.drives b).ledT1h = s.ledT1h := rfl
@[simp] theorem State.drives_ledTbit (b : Bool) : (s.drives b).ledTbit = s.ledTbit := rfl
@[simp] theorem State.drives_ledTrst (b : Bool) : (s.drives b).ledTrst = s.ledTrst := rfl
@[simp] theorem State.drives_irqPend (b : Bool) : (s.drives b).irqPend = s.irqPend := rfl
@[simp] theorem State.drives_irqEn (b : Bool) : (s.drives b).irqEn = s.irqEn := rfl
@[simp] theorem State.drives_lbusy (b : Bool) : (s.drives b).lbusy = s.lbusy := rfl
@[simp] theorem State.drives_lt (b : Bool) : (s.drives b).lt = s.lt := rfl
@[simp] theorem State.drives_lbits (b : Bool) : (s.drives b).lbits = s.lbits := rfl
@[simp] theorem State.drives_lt0h (b : Bool) : (s.drives b).lt0h = s.lt0h := rfl
@[simp] theorem State.drives_lt1h (b : Bool) : (s.drives b).lt1h = s.lt1h := rfl
@[simp] theorem State.drives_ltbit (b : Bool) : (s.drives b).ltbit = s.ltbit := rfl
@[simp] theorem State.drives_ltrst (b : Bool) : (s.drives b).ltrst = s.ltrst := rfl
@[simp] theorem State.drives_pix (b : Bool) : (s.drives b).pix = s.pix := rfl
@[simp] theorem State.drives_draws (b : Bool) : (s.drives b).draws = s.draws := rfl
@[simp] theorem State.drives_pending (b : Bool) : (s.drives b).pending = s.pending := rfl
@[simp] theorem State.drives_out (b : Bool) : (s.drives b).out = .lineLevel b := rfl
@[simp] theorem State.drives_conds (b : Bool) : (s.drives b).conds = s.conds := rfl

/-! ### State.signal -/

@[simp] theorem State.signal_cfg (x : Condition) : (s.signal x).cfg = s.cfg := rfl
@[simp] theorem State.signal_dstate (x : Condition) : (s.signal x).dstate = s.dstate := rfl
@[simp] theorem State.signal_dcnt (x : Condition) : (s.signal x).dcnt = s.dcnt := rfl
@[simp] theorem State.signal_dbuf (x : Condition) : (s.signal x).dbuf = s.dbuf := rfl
@[simp] theorem State.signal_mb (x : Condition) : (s.signal x).mb = s.mb := rfl
@[simp] theorem State.signal_fresh (x : Condition) : (s.signal x).fresh = s.fresh := rfl
@[simp] theorem State.signal_ovr (x : Condition) : (s.signal x).ovr = s.ovr := rfl
@[simp] theorem State.signal_snap (x : Condition) : (s.signal x).snap = s.snap := rfl
@[simp] theorem State.signal_scnt (x : Condition) : (s.signal x).scnt = s.scnt := rfl
@[simp] theorem State.signal_stale (x : Condition) : (s.signal x).stale = s.stale := rfl
@[simp] theorem State.signal_rss (x : Condition) : (s.signal x).rss = s.rss := rfl
@[simp] theorem State.signal_arbIn (x : Condition) : (s.signal x).arbIn = s.arbIn := rfl
@[simp] theorem State.signal_arbCfg (x : Condition) : (s.signal x).arbCfg = s.arbCfg := rfl
@[simp] theorem State.signal_arbStat (x : Condition) : (s.signal x).arbStat = s.arbStat := rfl
@[simp] theorem State.signal_light (x : Condition) : (s.signal x).light = s.light := rfl
@[simp] theorem State.signal_lightRgb (x : Condition) : (s.signal x).lightRgb = s.lightRgb := rfl
@[simp] theorem State.signal_lightPos (x : Condition) : (s.signal x).lightPos = s.lightPos := rfl
@[simp] theorem State.signal_tick (x : Condition) : (s.signal x).tick = s.tick := rfl
@[simp] theorem State.signal_pixsrc (x : Condition) : (s.signal x).pixsrc = s.pixsrc := rfl
@[simp] theorem State.signal_cfgerr (x : Condition) : (s.signal x).cfgerr = s.cfgerr := rfl
@[simp] theorem State.signal_wdrop (x : Condition) : (s.signal x).wdrop = s.wdrop := rfl
@[simp] theorem State.signal_rdrop (x : Condition) : (s.signal x).rdrop = s.rdrop := rfl
@[simp] theorem State.signal_ledT0h (x : Condition) : (s.signal x).ledT0h = s.ledT0h := rfl
@[simp] theorem State.signal_ledT1h (x : Condition) : (s.signal x).ledT1h = s.ledT1h := rfl
@[simp] theorem State.signal_ledTbit (x : Condition) : (s.signal x).ledTbit = s.ledTbit := rfl
@[simp] theorem State.signal_ledTrst (x : Condition) : (s.signal x).ledTrst = s.ledTrst := rfl
@[simp] theorem State.signal_irqPend (x : Condition) : (s.signal x).irqPend = s.irqPend := rfl
@[simp] theorem State.signal_irqEn (x : Condition) : (s.signal x).irqEn = s.irqEn := rfl
@[simp] theorem State.signal_lbusy (x : Condition) : (s.signal x).lbusy = s.lbusy := rfl
@[simp] theorem State.signal_lt (x : Condition) : (s.signal x).lt = s.lt := rfl
@[simp] theorem State.signal_lbits (x : Condition) : (s.signal x).lbits = s.lbits := rfl
@[simp] theorem State.signal_lt0h (x : Condition) : (s.signal x).lt0h = s.lt0h := rfl
@[simp] theorem State.signal_lt1h (x : Condition) : (s.signal x).lt1h = s.lt1h := rfl
@[simp] theorem State.signal_ltbit (x : Condition) : (s.signal x).ltbit = s.ltbit := rfl
@[simp] theorem State.signal_ltrst (x : Condition) : (s.signal x).ltrst = s.ltrst := rfl
@[simp] theorem State.signal_pix (x : Condition) : (s.signal x).pix = s.pix := rfl
@[simp] theorem State.signal_draws (x : Condition) : (s.signal x).draws = s.draws := rfl
@[simp] theorem State.signal_pending (x : Condition) : (s.signal x).pending = s.pending := rfl
@[simp] theorem State.signal_out (x : Condition) : (s.signal x).out = s.out := rfl
@[simp] theorem State.signal_conds (x : Condition) : (s.signal x).conds = s.conds ++ [x] := rfl

/-! ### State.startOp -/

@[simp] theorem State.startOp_cfg (rest : List Op) : (s.startOp rest).cfg = s.cfg := rfl
@[simp] theorem State.startOp_dstate (rest : List Op) : (s.startOp rest).dstate = s.dstate := rfl
@[simp] theorem State.startOp_dcnt (rest : List Op) : (s.startOp rest).dcnt = s.dcnt := rfl
@[simp] theorem State.startOp_dbuf (rest : List Op) : (s.startOp rest).dbuf = s.dbuf := rfl
@[simp] theorem State.startOp_mb (rest : List Op) : (s.startOp rest).mb = s.mb := rfl
@[simp] theorem State.startOp_fresh (rest : List Op) : (s.startOp rest).fresh = s.fresh := rfl
@[simp] theorem State.startOp_ovr (rest : List Op) : (s.startOp rest).ovr = s.ovr := rfl
@[simp] theorem State.startOp_snap (rest : List Op) : (s.startOp rest).snap = s.snap := rfl
@[simp] theorem State.startOp_scnt (rest : List Op) : (s.startOp rest).scnt = s.scnt := rfl
@[simp] theorem State.startOp_stale (rest : List Op) : (s.startOp rest).stale = s.stale := rfl
@[simp] theorem State.startOp_rss (rest : List Op) : (s.startOp rest).rss = s.rss := rfl
@[simp] theorem State.startOp_arbIn (rest : List Op) : (s.startOp rest).arbIn = s.arbIn := rfl
@[simp] theorem State.startOp_arbCfg (rest : List Op) : (s.startOp rest).arbCfg = s.arbCfg := rfl
@[simp] theorem State.startOp_arbStat (rest : List Op) : (s.startOp rest).arbStat = s.arbStat := rfl
@[simp] theorem State.startOp_light (rest : List Op) : (s.startOp rest).light = s.light := rfl
@[simp] theorem State.startOp_lightRgb (rest : List Op) : (s.startOp rest).lightRgb = s.lightRgb := rfl
@[simp] theorem State.startOp_lightPos (rest : List Op) : (s.startOp rest).lightPos = s.lightPos := rfl
@[simp] theorem State.startOp_tick (rest : List Op) : (s.startOp rest).tick = s.tick := rfl
@[simp] theorem State.startOp_pixsrc (rest : List Op) : (s.startOp rest).pixsrc = s.pixsrc := rfl
@[simp] theorem State.startOp_cfgerr (rest : List Op) : (s.startOp rest).cfgerr = s.cfgerr := rfl
@[simp] theorem State.startOp_wdrop (rest : List Op) : (s.startOp rest).wdrop = s.wdrop := rfl
@[simp] theorem State.startOp_rdrop (rest : List Op) : (s.startOp rest).rdrop = s.rdrop := rfl
@[simp] theorem State.startOp_ledT0h (rest : List Op) : (s.startOp rest).ledT0h = s.ledT0h := rfl
@[simp] theorem State.startOp_ledT1h (rest : List Op) : (s.startOp rest).ledT1h = s.ledT1h := rfl
@[simp] theorem State.startOp_ledTbit (rest : List Op) : (s.startOp rest).ledTbit = s.ledTbit := rfl
@[simp] theorem State.startOp_ledTrst (rest : List Op) : (s.startOp rest).ledTrst = s.ledTrst := rfl
@[simp] theorem State.startOp_irqPend (rest : List Op) : (s.startOp rest).irqPend = s.irqPend := rfl
@[simp] theorem State.startOp_irqEn (rest : List Op) : (s.startOp rest).irqEn = s.irqEn := rfl
@[simp] theorem State.startOp_lbusy (rest : List Op) : (s.startOp rest).lbusy = s.lbusy := rfl
@[simp] theorem State.startOp_lt (rest : List Op) : (s.startOp rest).lt = s.lt := rfl
@[simp] theorem State.startOp_lbits (rest : List Op) : (s.startOp rest).lbits = s.lbits := rfl
@[simp] theorem State.startOp_lt0h (rest : List Op) : (s.startOp rest).lt0h = s.lt0h := rfl
@[simp] theorem State.startOp_lt1h (rest : List Op) : (s.startOp rest).lt1h = s.lt1h := rfl
@[simp] theorem State.startOp_ltbit (rest : List Op) : (s.startOp rest).ltbit = s.ltbit := rfl
@[simp] theorem State.startOp_ltrst (rest : List Op) : (s.startOp rest).ltrst = s.ltrst := rfl
@[simp] theorem State.startOp_pix (rest : List Op) : (s.startOp rest).pix = s.pix := rfl
@[simp] theorem State.startOp_draws (rest : List Op) : (s.startOp rest).draws = s.draws := rfl
@[simp] theorem State.startOp_pending (rest : List Op) : (s.startOp rest).pending = rest := rfl
@[simp] theorem State.startOp_out (rest : List Op) : (s.startOp rest).out = .none := rfl
@[simp] theorem State.startOp_conds (rest : List Op) : (s.startOp rest).conds = [] := rfl

/-! ### State.bufferByte -/

@[simp] theorem State.bufferByte_cfg (n : Fin 32) (d : Byte) : (s.bufferByte n d).cfg = s.cfg := rfl
@[simp] theorem State.bufferByte_dstate (n : Fin 32) (d : Byte) : (s.bufferByte n d).dstate = s.dstate := rfl
@[simp] theorem State.bufferByte_dcnt (n : Fin 32) (d : Byte) : (s.bufferByte n d).dcnt = s.dcnt := rfl
@[simp] theorem State.bufferByte_dbuf (n : Fin 32) (d : Byte) : (s.bufferByte n d).dbuf = s.dbuf.set n.val d n.isLt := rfl
@[simp] theorem State.bufferByte_mb (n : Fin 32) (d : Byte) : (s.bufferByte n d).mb = s.mb := rfl
@[simp] theorem State.bufferByte_fresh (n : Fin 32) (d : Byte) : (s.bufferByte n d).fresh = s.fresh := rfl
@[simp] theorem State.bufferByte_ovr (n : Fin 32) (d : Byte) : (s.bufferByte n d).ovr = s.ovr := rfl
@[simp] theorem State.bufferByte_snap (n : Fin 32) (d : Byte) : (s.bufferByte n d).snap = s.snap := rfl
@[simp] theorem State.bufferByte_scnt (n : Fin 32) (d : Byte) : (s.bufferByte n d).scnt = s.scnt := rfl
@[simp] theorem State.bufferByte_stale (n : Fin 32) (d : Byte) : (s.bufferByte n d).stale = s.stale := rfl
@[simp] theorem State.bufferByte_rss (n : Fin 32) (d : Byte) : (s.bufferByte n d).rss = s.rss := rfl
@[simp] theorem State.bufferByte_arbIn (n : Fin 32) (d : Byte) : (s.bufferByte n d).arbIn = s.arbIn := rfl
@[simp] theorem State.bufferByte_arbCfg (n : Fin 32) (d : Byte) : (s.bufferByte n d).arbCfg = s.arbCfg := rfl
@[simp] theorem State.bufferByte_arbStat (n : Fin 32) (d : Byte) : (s.bufferByte n d).arbStat = s.arbStat := rfl
@[simp] theorem State.bufferByte_light (n : Fin 32) (d : Byte) : (s.bufferByte n d).light = s.light := rfl
@[simp] theorem State.bufferByte_lightRgb (n : Fin 32) (d : Byte) : (s.bufferByte n d).lightRgb = s.lightRgb := rfl
@[simp] theorem State.bufferByte_lightPos (n : Fin 32) (d : Byte) : (s.bufferByte n d).lightPos = s.lightPos := rfl
@[simp] theorem State.bufferByte_tick (n : Fin 32) (d : Byte) : (s.bufferByte n d).tick = s.tick := rfl
@[simp] theorem State.bufferByte_pixsrc (n : Fin 32) (d : Byte) : (s.bufferByte n d).pixsrc = s.pixsrc := rfl
@[simp] theorem State.bufferByte_cfgerr (n : Fin 32) (d : Byte) : (s.bufferByte n d).cfgerr = s.cfgerr := rfl
@[simp] theorem State.bufferByte_wdrop (n : Fin 32) (d : Byte) : (s.bufferByte n d).wdrop = s.wdrop := rfl
@[simp] theorem State.bufferByte_rdrop (n : Fin 32) (d : Byte) : (s.bufferByte n d).rdrop = s.rdrop := rfl
@[simp] theorem State.bufferByte_ledT0h (n : Fin 32) (d : Byte) : (s.bufferByte n d).ledT0h = s.ledT0h := rfl
@[simp] theorem State.bufferByte_ledT1h (n : Fin 32) (d : Byte) : (s.bufferByte n d).ledT1h = s.ledT1h := rfl
@[simp] theorem State.bufferByte_ledTbit (n : Fin 32) (d : Byte) : (s.bufferByte n d).ledTbit = s.ledTbit := rfl
@[simp] theorem State.bufferByte_ledTrst (n : Fin 32) (d : Byte) : (s.bufferByte n d).ledTrst = s.ledTrst := rfl
@[simp] theorem State.bufferByte_irqPend (n : Fin 32) (d : Byte) : (s.bufferByte n d).irqPend = s.irqPend := rfl
@[simp] theorem State.bufferByte_irqEn (n : Fin 32) (d : Byte) : (s.bufferByte n d).irqEn = s.irqEn := rfl
@[simp] theorem State.bufferByte_lbusy (n : Fin 32) (d : Byte) : (s.bufferByte n d).lbusy = s.lbusy := rfl
@[simp] theorem State.bufferByte_lt (n : Fin 32) (d : Byte) : (s.bufferByte n d).lt = s.lt := rfl
@[simp] theorem State.bufferByte_lbits (n : Fin 32) (d : Byte) : (s.bufferByte n d).lbits = s.lbits := rfl
@[simp] theorem State.bufferByte_lt0h (n : Fin 32) (d : Byte) : (s.bufferByte n d).lt0h = s.lt0h := rfl
@[simp] theorem State.bufferByte_lt1h (n : Fin 32) (d : Byte) : (s.bufferByte n d).lt1h = s.lt1h := rfl
@[simp] theorem State.bufferByte_ltbit (n : Fin 32) (d : Byte) : (s.bufferByte n d).ltbit = s.ltbit := rfl
@[simp] theorem State.bufferByte_ltrst (n : Fin 32) (d : Byte) : (s.bufferByte n d).ltrst = s.ltrst := rfl
@[simp] theorem State.bufferByte_pix (n : Fin 32) (d : Byte) : (s.bufferByte n d).pix = s.pix := rfl
@[simp] theorem State.bufferByte_draws (n : Fin 32) (d : Byte) : (s.bufferByte n d).draws = s.draws := rfl
@[simp] theorem State.bufferByte_pending (n : Fin 32) (d : Byte) : (s.bufferByte n d).pending = s.pending := rfl
@[simp] theorem State.bufferByte_out (n : Fin 32) (d : Byte) : (s.bufferByte n d).out = s.out := rfl
@[simp] theorem State.bufferByte_conds (n : Fin 32) (d : Byte) : (s.bufferByte n d).conds = s.conds := rfl

/-! ### State.decoderTo -/

@[simp] theorem State.decoderTo_cfg (st : DState) (n : Fin 32) : (s.decoderTo st n).cfg = s.cfg := rfl
@[simp] theorem State.decoderTo_dstate (st : DState) (n : Fin 32) : (s.decoderTo st n).dstate = st := rfl
@[simp] theorem State.decoderTo_dcnt (st : DState) (n : Fin 32) : (s.decoderTo st n).dcnt = n := rfl
@[simp] theorem State.decoderTo_dbuf (st : DState) (n : Fin 32) : (s.decoderTo st n).dbuf = s.dbuf := rfl
@[simp] theorem State.decoderTo_mb (st : DState) (n : Fin 32) : (s.decoderTo st n).mb = s.mb := rfl
@[simp] theorem State.decoderTo_fresh (st : DState) (n : Fin 32) : (s.decoderTo st n).fresh = s.fresh := rfl
@[simp] theorem State.decoderTo_ovr (st : DState) (n : Fin 32) : (s.decoderTo st n).ovr = s.ovr := rfl
@[simp] theorem State.decoderTo_snap (st : DState) (n : Fin 32) : (s.decoderTo st n).snap = s.snap := rfl
@[simp] theorem State.decoderTo_scnt (st : DState) (n : Fin 32) : (s.decoderTo st n).scnt = s.scnt := rfl
@[simp] theorem State.decoderTo_stale (st : DState) (n : Fin 32) : (s.decoderTo st n).stale = s.stale := rfl
@[simp] theorem State.decoderTo_rss (st : DState) (n : Fin 32) : (s.decoderTo st n).rss = s.rss := rfl
@[simp] theorem State.decoderTo_arbIn (st : DState) (n : Fin 32) : (s.decoderTo st n).arbIn = s.arbIn := rfl
@[simp] theorem State.decoderTo_arbCfg (st : DState) (n : Fin 32) : (s.decoderTo st n).arbCfg = s.arbCfg := rfl
@[simp] theorem State.decoderTo_arbStat (st : DState) (n : Fin 32) : (s.decoderTo st n).arbStat = s.arbStat := rfl
@[simp] theorem State.decoderTo_light (st : DState) (n : Fin 32) : (s.decoderTo st n).light = s.light := rfl
@[simp] theorem State.decoderTo_lightRgb (st : DState) (n : Fin 32) : (s.decoderTo st n).lightRgb = s.lightRgb := rfl
@[simp] theorem State.decoderTo_lightPos (st : DState) (n : Fin 32) : (s.decoderTo st n).lightPos = s.lightPos := rfl
@[simp] theorem State.decoderTo_tick (st : DState) (n : Fin 32) : (s.decoderTo st n).tick = s.tick := rfl
@[simp] theorem State.decoderTo_pixsrc (st : DState) (n : Fin 32) : (s.decoderTo st n).pixsrc = s.pixsrc := rfl
@[simp] theorem State.decoderTo_cfgerr (st : DState) (n : Fin 32) : (s.decoderTo st n).cfgerr = s.cfgerr := rfl
@[simp] theorem State.decoderTo_wdrop (st : DState) (n : Fin 32) : (s.decoderTo st n).wdrop = s.wdrop := rfl
@[simp] theorem State.decoderTo_rdrop (st : DState) (n : Fin 32) : (s.decoderTo st n).rdrop = s.rdrop := rfl
@[simp] theorem State.decoderTo_ledT0h (st : DState) (n : Fin 32) : (s.decoderTo st n).ledT0h = s.ledT0h := rfl
@[simp] theorem State.decoderTo_ledT1h (st : DState) (n : Fin 32) : (s.decoderTo st n).ledT1h = s.ledT1h := rfl
@[simp] theorem State.decoderTo_ledTbit (st : DState) (n : Fin 32) : (s.decoderTo st n).ledTbit = s.ledTbit := rfl
@[simp] theorem State.decoderTo_ledTrst (st : DState) (n : Fin 32) : (s.decoderTo st n).ledTrst = s.ledTrst := rfl
@[simp] theorem State.decoderTo_irqPend (st : DState) (n : Fin 32) : (s.decoderTo st n).irqPend = s.irqPend := rfl
@[simp] theorem State.decoderTo_irqEn (st : DState) (n : Fin 32) : (s.decoderTo st n).irqEn = s.irqEn := rfl
@[simp] theorem State.decoderTo_lbusy (st : DState) (n : Fin 32) : (s.decoderTo st n).lbusy = s.lbusy := rfl
@[simp] theorem State.decoderTo_lt (st : DState) (n : Fin 32) : (s.decoderTo st n).lt = s.lt := rfl
@[simp] theorem State.decoderTo_lbits (st : DState) (n : Fin 32) : (s.decoderTo st n).lbits = s.lbits := rfl
@[simp] theorem State.decoderTo_lt0h (st : DState) (n : Fin 32) : (s.decoderTo st n).lt0h = s.lt0h := rfl
@[simp] theorem State.decoderTo_lt1h (st : DState) (n : Fin 32) : (s.decoderTo st n).lt1h = s.lt1h := rfl
@[simp] theorem State.decoderTo_ltbit (st : DState) (n : Fin 32) : (s.decoderTo st n).ltbit = s.ltbit := rfl
@[simp] theorem State.decoderTo_ltrst (st : DState) (n : Fin 32) : (s.decoderTo st n).ltrst = s.ltrst := rfl
@[simp] theorem State.decoderTo_pix (st : DState) (n : Fin 32) : (s.decoderTo st n).pix = s.pix := rfl
@[simp] theorem State.decoderTo_draws (st : DState) (n : Fin 32) : (s.decoderTo st n).draws = s.draws := rfl
@[simp] theorem State.decoderTo_pending (st : DState) (n : Fin 32) : (s.decoderTo st n).pending = s.pending := rfl
@[simp] theorem State.decoderTo_out (st : DState) (n : Fin 32) : (s.decoderTo st n).out = s.out := rfl
@[simp] theorem State.decoderTo_conds (st : DState) (n : Fin 32) : (s.decoderTo st n).conds = s.conds := rfl

/-! ### State.tickOnce -/

@[simp] theorem State.tickOnce_cfg : (s.tickOnce).cfg = s.cfg := rfl
@[simp] theorem State.tickOnce_dstate : (s.tickOnce).dstate = s.dstate := rfl
@[simp] theorem State.tickOnce_dcnt : (s.tickOnce).dcnt = s.dcnt := rfl
@[simp] theorem State.tickOnce_dbuf : (s.tickOnce).dbuf = s.dbuf := rfl
@[simp] theorem State.tickOnce_mb : (s.tickOnce).mb = s.mb := rfl
@[simp] theorem State.tickOnce_fresh : (s.tickOnce).fresh = s.fresh := rfl
@[simp] theorem State.tickOnce_ovr : (s.tickOnce).ovr = s.ovr := rfl
@[simp] theorem State.tickOnce_snap : (s.tickOnce).snap = s.snap := rfl
@[simp] theorem State.tickOnce_scnt : (s.tickOnce).scnt = s.scnt := rfl
@[simp] theorem State.tickOnce_stale : (s.tickOnce).stale = s.stale := rfl
@[simp] theorem State.tickOnce_rss : (s.tickOnce).rss = s.rss := rfl
@[simp] theorem State.tickOnce_arbIn : (s.tickOnce).arbIn = s.arbIn := rfl
@[simp] theorem State.tickOnce_arbCfg : (s.tickOnce).arbCfg = s.arbCfg := rfl
@[simp] theorem State.tickOnce_arbStat : (s.tickOnce).arbStat = s.arbStat := rfl
@[simp] theorem State.tickOnce_light : (s.tickOnce).light = s.light := rfl
@[simp] theorem State.tickOnce_lightRgb : (s.tickOnce).lightRgb = s.lightRgb := rfl
@[simp] theorem State.tickOnce_lightPos : (s.tickOnce).lightPos = s.lightPos := rfl
@[simp] theorem State.tickOnce_tick : (s.tickOnce).tick = s.tick + 1 := rfl
@[simp] theorem State.tickOnce_pixsrc : (s.tickOnce).pixsrc = s.pixsrc := rfl
@[simp] theorem State.tickOnce_cfgerr : (s.tickOnce).cfgerr = s.cfgerr := rfl
@[simp] theorem State.tickOnce_wdrop : (s.tickOnce).wdrop = s.wdrop := rfl
@[simp] theorem State.tickOnce_rdrop : (s.tickOnce).rdrop = s.rdrop := rfl
@[simp] theorem State.tickOnce_ledT0h : (s.tickOnce).ledT0h = s.ledT0h := rfl
@[simp] theorem State.tickOnce_ledT1h : (s.tickOnce).ledT1h = s.ledT1h := rfl
@[simp] theorem State.tickOnce_ledTbit : (s.tickOnce).ledTbit = s.ledTbit := rfl
@[simp] theorem State.tickOnce_ledTrst : (s.tickOnce).ledTrst = s.ledTrst := rfl
@[simp] theorem State.tickOnce_irqPend : (s.tickOnce).irqPend = s.irqPend := rfl
@[simp] theorem State.tickOnce_irqEn : (s.tickOnce).irqEn = s.irqEn := rfl
@[simp] theorem State.tickOnce_lbusy : (s.tickOnce).lbusy = s.lbusy := rfl
@[simp] theorem State.tickOnce_lt : (s.tickOnce).lt = s.lt := rfl
@[simp] theorem State.tickOnce_lbits : (s.tickOnce).lbits = s.lbits := rfl
@[simp] theorem State.tickOnce_lt0h : (s.tickOnce).lt0h = s.lt0h := rfl
@[simp] theorem State.tickOnce_lt1h : (s.tickOnce).lt1h = s.lt1h := rfl
@[simp] theorem State.tickOnce_ltbit : (s.tickOnce).ltbit = s.ltbit := rfl
@[simp] theorem State.tickOnce_ltrst : (s.tickOnce).ltrst = s.ltrst := rfl
@[simp] theorem State.tickOnce_pix : (s.tickOnce).pix = s.pix := rfl
@[simp] theorem State.tickOnce_draws : (s.tickOnce).draws = s.draws := rfl
@[simp] theorem State.tickOnce_pending : (s.tickOnce).pending = s.pending := rfl
@[simp] theorem State.tickOnce_out : (s.tickOnce).out = s.out := rfl
@[simp] theorem State.tickOnce_conds : (s.tickOnce).conds = s.conds := rfl

end Sys2Proof.Machine
end

