-- ==== Sys2Proof/Laws/Ops.lean ====
section
/-! SUPPORT. One lemma for each shared operation that says once everything it can do; a proof cites it and does not
unfold the operation again. -/

namespace Sys2Proof.Machine

variable (s : State)

/-! ### Ignored accesses and dropped writes, as basic updates -/

@[simp] theorem State.ignoreRead_eq : s.ignoreRead = (s.returns 0).signal .ignoredAccess := rfl
@[simp] theorem State.ignoreWrite_eq : s.ignoreWrite = s.signal .ignoredAccess := rfl

theorem State.dropWrite_eq :
    s.dropWrite = { s with wdrop := true, conds := s.conds ++ [.writeWhileBusy] } := rfl

/-! ### Frame decoder -/

/-- R107: everything a publish does. -/
theorem State.publish_eq : s.publish = { s with
    ovr := s.ovr || s.fresh, mb := frameRecord s.dbuf, fresh := true, rss := true, irqPend := s.irqPend ||| irqRec
    conds := s.conds ++ (if s.fresh then [.recordOverwrite] else []) } := by
  unfold State.publish
  cases s.fresh <;> simp [State.signal]

/-- R108: everything a discard does. -/
theorem State.discard_eq : s.discard = { s with conds := s.conds ++ [.checksumFail] } := rfl

/-- R101-R108: everything one received byte can do: one row of R101's table. -/
theorem State.rxByte_cases (d : Byte) :
    (s.dstate = .awaitSync1 ∧ d = 0x42#8 ∧ s.rxByte d = (s.bufferByte 0 d).decoderTo .awaitSync2 1) ∨
    (s.dstate = .awaitSync1 ∧ d ≠ 0x42#8 ∧ s.rxByte d = s) ∨
    (s.dstate = .awaitSync2 ∧ d = 0x4D#8 ∧ s.rxByte d = (s.bufferByte 1 d).decoderTo .collecting 2) ∨
    (s.dstate = .awaitSync2 ∧ d ≠ 0x4D#8 ∧ s.rxByte d = (s.decoderTo .awaitSync1 0).signal .syncLost) ∨
    (s.dstate = .collecting ∧ s.dcnt ≠ 31 ∧
      s.rxByte d = (s.bufferByte s.dcnt d).decoderTo .collecting (s.dcnt + 1)) ∨
    (s.dstate = .collecting ∧ s.dcnt = 31 ∧ checksumOk (s.dbuf.set 31 d) = true ∧
      s.rxByte d = (s.bufferByte 31 d).publish.decoderTo .awaitSync1 0) ∨
    (s.dstate = .collecting ∧ s.dcnt = 31 ∧ checksumOk (s.dbuf.set 31 d) = false ∧
      s.rxByte d = (s.bufferByte 31 d).discard.decoderTo .awaitSync1 0) := by
  cases hs : s.dstate with
  | awaitSync1 =>
    by_cases h : d = 0x42#8 <;> simp [State.rxByte, hs, State.rxSync1, h]
  | awaitSync2 =>
    by_cases h : d = 0x4D#8 <;> simp [State.rxByte, hs, State.rxSync2, h]
  | collecting =>
    by_cases h : s.dcnt = 31
    · have hb : (s.bufferByte 31 d).dbuf = s.dbuf.set 31 d := rfl
      cases hc : checksumOk (s.dbuf.set 31 d) <;>
        simp only [State.rxByte, hs, State.rxCollect, h, hb, hc] <;> simp
    · simp [State.rxByte, hs, State.rxCollect, h]

/-- R106: the sum of the frame's first thirty bytes, as a finite sum. -/
theorem frameSum_toNat (b : Vector Byte 32) : (frameSum b).toNat = (∑ j : Fin 30, b[j.val].toNat) % 65536 := by
  have h : ((b.toList.take 30).map BitVec.toNat).sum = ∑ j : Fin 30, b[j.val].toNat := by
    rw [← List.sum_ofFn]
    congr 1
    apply List.ext_getElem
    · simp
    · intro n _ _
      rw [List.getElem_map, List.getElem_take, List.getElem_ofFn, Vector.getElem_toList]
  rw [frameSum, BitVec.toNat_ofNat, h]

/-- R106 on numbers. -/
theorem checksumOk_iff (b : Vector Byte 32) :
    checksumOk b = true ↔ (∑ j : Fin 30, b[j.val].toNat) % 65536 = 256 * b[30].toNat + b[31].toNat := by
  rw [checksumOk, beq_iff_eq, ← BitVec.toNat_inj, frameSum_toNat, frameChecksum, bigEndian_toNat]

/-- R106 when the last byte arrives: the sum does not involve it. -/
theorem checksumOk_set_iff (b : Vector Byte 32) (d : Byte) : checksumOk (b.set 31 d) = true ↔
    (∑ j : Fin 30, b[j.val].toNat) % 65536 = 256 * b[30].toNat + d.toNat := by
  have h : ∀ j : Fin 30, (b.set 31 d)[j.val] = b[j.val] := fun j => Vector.getElem_set_ne _ _ (by omega)
  rw [checksumOk_iff]
  simp [h]

/-- R110: everything taking a record does. -/
theorem State.takeRecord_cases :
    (s.fresh = true ∧ s.takeRecord = { s with snap := s.mb, fresh := false, ovr := false }) ∨
    (s.fresh = false ∧ s.takeRecord = s) := by
  unfold State.takeRecord
  cases s.fresh <;> simp

/-! ### Staleness timer and arbitrator -/

theorem nextScnt_toNat (rss : Bool) (scnt : Byte) :
    (nextScnt rss scnt).toNat = if rss then 0 else min (scnt.toNat + 1) 255 := by
  have := scnt.isLt
  cases rss <;> simp [nextScnt]

theorem nextDur_toNat (any : Bool) (dur0 : Byte) :
    (nextDur any dur0).toNat = if any then min (dur0.toNat + 1) 50 else 0 := by
  cases any <;> simp [nextDur]

/-- R128: everything the staleness stage does. -/
theorem State.staleUpdate_eq : s.staleUpdate = { s with
    scnt := nextScnt s.rss s.scnt, rss := false, stale := staleFlag s.cfg.staleCmp (nextScnt s.rss s.scnt) } := rfl

/-- R155: everything the interrupt stage does. -/
theorem State.staleIrq_cases (prev : Bool) :
    (prev = false ∧ s.stale = true ∧
      s.staleIrq prev = { s with irqPend := s.irqPend ||| irqStale, conds := s.conds ++ [.sensorStale] }) ∨
    ((prev = true ∨ s.stale = false) ∧ s.staleIrq prev = s) := by
  unfold State.staleIrq
  cases prev <;> cases h : s.stale <;> simp [State.signal]

/-- R145: the state a STEP leaves, apart from the committed words, in one equation. -/
theorem State.arbStep_eq : s.arbStep =
    { s with
      scnt := nextScnt s.rss s.scnt
      rss := false
      stale := staleFlag s.cfg.staleCmp (nextScnt s.rss s.scnt)
      irqPend := s.arbStep.irqPend
      conds := s.arbStep.conds
      arbStat := s.arbStep.arbStat
      light := s.arbStep.light
      lightRgb := s.arbStep.lightRgb
      lightPos := s.arbStep.lightPos } := by
  unfold State.arbStep
  rcases s.staleUpdate.staleIrq_cases s.stale with ⟨_, _, h⟩ | ⟨_, h⟩ <;> rw [h] <;> rfl

/-! What a STEP leaves unchanged, and the timer it leaves (R128, R145). -/

@[simp] theorem State.arbStep_cfg : s.arbStep.cfg = s.cfg := by rw [State.arbStep_eq]
@[simp] theorem State.arbStep_dstate : s.arbStep.dstate = s.dstate := by rw [State.arbStep_eq]
@[simp] theorem State.arbStep_dcnt : s.arbStep.dcnt = s.dcnt := by rw [State.arbStep_eq]
@[simp] theorem State.arbStep_dbuf : s.arbStep.dbuf = s.dbuf := by rw [State.arbStep_eq]
@[simp] theorem State.arbStep_mb : s.arbStep.mb = s.mb := by rw [State.arbStep_eq]
@[simp] theorem State.arbStep_fresh : s.arbStep.fresh = s.fresh := by rw [State.arbStep_eq]
@[simp] theorem State.arbStep_ovr : s.arbStep.ovr = s.ovr := by rw [State.arbStep_eq]
@[simp] theorem State.arbStep_snap : s.arbStep.snap = s.snap := by rw [State.arbStep_eq]
@[simp] theorem State.arbStep_arbIn : s.arbStep.arbIn = s.arbIn := by rw [State.arbStep_eq]
@[simp] theorem State.arbStep_arbCfg : s.arbStep.arbCfg = s.arbCfg := by rw [State.arbStep_eq]
@[simp] theorem State.arbStep_tick : s.arbStep.tick = s.tick := by rw [State.arbStep_eq]
@[simp] theorem State.arbStep_pixsrc : s.arbStep.pixsrc = s.pixsrc := by rw [State.arbStep_eq]
@[simp] theorem State.arbStep_cfgerr : s.arbStep.cfgerr = s.cfgerr := by rw [State.arbStep_eq]
@[simp] theorem State.arbStep_wdrop : s.arbStep.wdrop = s.wdrop := by rw [State.arbStep_eq]
@[simp] theorem State.arbStep_rdrop : s.arbStep.rdrop = s.rdrop := by rw [State.arbStep_eq]
@[simp] theorem State.arbStep_ledT0h : s.arbStep.ledT0h = s.ledT0h := by rw [State.arbStep_eq]
@[simp] theorem State.arbStep_ledT1h : s.arbStep.ledT1h = s.ledT1h := by rw [State.arbStep_eq]
@[simp] theorem State.arbStep_ledTbit : s.arbStep.ledTbit = s.ledTbit := by rw [State.arbStep_eq]
@[simp] theorem State.arbStep_ledTrst : s.arbStep.ledTrst = s.ledTrst := by rw [State.arbStep_eq]
@[simp] theorem State.arbStep_irqEn : s.arbStep.irqEn = s.irqEn := by rw [State.arbStep_eq]
@[simp] theorem State.arbStep_lbusy : s.arbStep.lbusy = s.lbusy := by rw [State.arbStep_eq]
@[simp] theorem State.arbStep_lt : s.arbStep.lt = s.lt := by rw [State.arbStep_eq]
@[simp] theorem State.arbStep_lbits : s.arbStep.lbits = s.lbits := by rw [State.arbStep_eq]
@[simp] theorem State.arbStep_lt0h : s.arbStep.lt0h = s.lt0h := by rw [State.arbStep_eq]
@[simp] theorem State.arbStep_lt1h : s.arbStep.lt1h = s.lt1h := by rw [State.arbStep_eq]
@[simp] theorem State.arbStep_ltbit : s.arbStep.ltbit = s.ltbit := by rw [State.arbStep_eq]
@[simp] theorem State.arbStep_ltrst : s.arbStep.ltrst = s.ltrst := by rw [State.arbStep_eq]
@[simp] theorem State.arbStep_pix : s.arbStep.pix = s.pix := by rw [State.arbStep_eq]
@[simp] theorem State.arbStep_draws : s.arbStep.draws = s.draws := by rw [State.arbStep_eq]
@[simp] theorem State.arbStep_pending : s.arbStep.pending = s.pending := by rw [State.arbStep_eq]
@[simp] theorem State.arbStep_out : s.arbStep.out = s.out := by rw [State.arbStep_eq]
theorem State.arbStep_scnt : s.arbStep.scnt = nextScnt s.rss s.scnt := by rw [State.arbStep_eq]
theorem State.arbStep_stale : s.arbStep.stale = staleFlag s.cfg.staleCmp (nextScnt s.rss s.scnt) := by
  rw [State.arbStep_eq]
@[simp] theorem State.arbStep_rss : s.arbStep.rss = false := by rw [State.arbStep_eq]

section
/-- The faults a STEP sees (R147). -/
abbrev State.stepFaults (s : State) : Faults :=
  effFaults s.arbIn (staleFlag s.cfg.staleCmp (nextScnt s.rss s.scnt))
/-- The masked alarms a STEP sees (R148). -/
abbrev State.stepAlarms (s : State) : EnvAlarms := maskAlarms s.arbIn s.stepFaults
/-- The status and cause of a STEP (R149). -/
abbrev State.stepStatus (s : State) : Status × Cause := arbitrate s.cfg s.arbIn s.stepFaults s.stepAlarms
/-- The light of a STEP (R153). -/
abbrev State.stepLight (s : State) : LightChoice := selectLight s.cfg s.arbCfg s.stepStatus.2 s.tick

/-- R147-R152, R156: what a STEP commits to ARB_STAT. -/
theorem State.arbStep_arbStat : s.arbStep.arbStat =
    arbStatWord (nextDur (alarmAny s.arbIn s.stepAlarms) (statDur s.arbStat)) (faultCode s.stepFaults)
      (alarmAny s.arbIn s.stepAlarms)
      (soundFlag s.cfg (alarmAny s.arbIn s.stepAlarms) (statDur s.arbStat) (cfgSilent s.arbCfg))
      s.stepStatus.2 s.stepStatus.1 := by
  unfold State.arbStep
  rcases s.staleUpdate.staleIrq_cases s.stale with ⟨_, _, h⟩ | ⟨_, h⟩ <;> rw [h] <;> rfl

/-- R153, R154, R156: what a STEP commits to LIGHT. -/
theorem State.arbStep_light : s.arbStep.light =
    lightWord s.stepLight.period (litPhase s.stepLight.kind s.stepLight.period s.tick) s.stepLight.kind := by
  unfold State.arbStep
  rcases s.staleUpdate.staleIrq_cases s.stale with ⟨_, _, h⟩ | ⟨_, h⟩ <;> rw [h] <;> rfl

theorem State.arbStep_lightRgb : s.arbStep.lightRgb = lightRgbWord s.stepLight.rgb := by
  unfold State.arbStep
  rcases s.staleUpdate.staleIrq_cases s.stale with ⟨_, _, h⟩ | ⟨_, h⟩ <;> rw [h] <;> rfl

theorem State.arbStep_lightPos : s.arbStep.lightPos = lightPosWord s.stepLight.pos := by
  unfold State.arbStep
  rcases s.staleUpdate.staleIrq_cases s.stale with ⟨_, _, h⟩ | ⟨_, h⟩ <;> rw [h] <;> rfl

/-- R155: what a STEP does to IRQ_PEND. -/
theorem State.arbStep_irqPend : s.arbStep.irqPend =
    if s.stale = false ∧ staleFlag s.cfg.staleCmp (nextScnt s.rss s.scnt) = true then s.irqPend ||| irqStale
    else s.irqPend := by
  unfold State.arbStep
  rcases s.staleUpdate.staleIrq_cases s.stale with ⟨h1, h2, h⟩ | ⟨h1, h⟩ <;> rw [h]
  · rw [State.staleUpdate_eq] at h2
    simp only [State.arbitrateAndCommit]
    rw [if_pos ⟨h1, h2⟩]
    rfl
  · rw [State.staleUpdate_eq] at h1
    simp only [State.arbitrateAndCommit]
    rw [if_neg (by rintro ⟨a, b⟩; rcases h1 with h1 | h1 <;> simp_all)]
    rfl
end

/-- R149: the status that goes with each cause. -/
theorem arbitrate_status (c : Config) (inp : Word) (f : Faults) (e : EnvAlarms) :
    (arbitrate c inp f e).1 = match (arbitrate c inp f e).2 with
      | .none => .normal
      | .fault => .envWarning
      | .fire => .fireAlert
      | .intr => .intrusion
      | .pm => .envWarning
      | .temp => .envWarning
      | .humi => .envWarning := by
  unfold arbitrate
  obtain ⟨a, b, d⟩ := envRanking c.envOrder
  dsimp only
  generalize (f.pf || f.tf || c.sfaultEscalates && f.sf) = b1
  generalize arbFire inp = b2
  generalize arbIntr inp = b3
  generalize envHolds e a = b4
  generalize envHolds e b = b5
  generalize envHolds e d = b6
  cases b1
  case true => rfl
  cases b2
  case true => rfl
  cases b3
  case true => rfl
  cases b4
  case true => cases a <;> rfl
  cases b5
  case true => cases b <;> rfl
  cases b6
  case true => cases d <;> rfl
  rfl

/-! ### LED encoder -/

/-- R197 on numbers. -/
theorem timingOk_iff (t0h t1h tbit trst : Half) : timingOk t0h t1h tbit trst = true ↔
    1 ≤ t0h.toNat ∧ t0h.toNat < t1h.toNat ∧ t1h.toNat < tbit.toNat ∧ 1 ≤ trst.toNat := by
  simp [timingOk, and_assoc]

/-- R50, R194: a burst of at most 256 pixels is shorter than 2^32 cycles, so LT does not wrap within it. -/
theorem burstTotal_lt {n : Nat} (tbit trst : Half) (h : n ≤ 256) : burstTotal n tbit trst < 2 ^ 32 := by
  have h1 := tbit.isLt
  have h2 := trst.isLt
  have h3 : n * tbit.toNat ≤ 256 * 65535 := Nat.mul_le_mul h (by omega)
  rw [burstTotal, burstBits, Nat.mul_assoc]
  omega

/-- R196: everything a refresh request can do. -/
theorem State.refreshRequest_cases :
    (s.lbusy = true ∧ s.refreshRequest = { s with rdrop := true, conds := s.conds ++ [.refreshBusy] }) ∨
    (s.lbusy = false ∧ timingOk s.ledT0h s.ledT1h s.ledTbit s.ledTrst = true ∧ s.refreshRequest = s.acceptBurst) ∨
    (s.lbusy = false ∧ timingOk s.ledT0h s.ledT1h s.ledTbit s.ledTrst = false ∧
      s.refreshRequest = { s with cfgerr := true, conds := s.conds ++ [.ledCfgInvalid] }) := by
  unfold State.refreshRequest
  cases h : s.lbusy <;> cases h' : timingOk s.ledT0h s.ledT1h s.ledTbit s.ledTrst <;> simp [State.signal]

/-- R195: a write to LED_CTRL. -/
theorem State.writeLedCtrl_cases (v : Word) :
    (v.getLsbD 0 = false ∧ s.writeLedCtrl v = { s with pixsrc := v.getLsbD 1 }) ∨
    (v.getLsbD 0 = true ∧ s.writeLedCtrl v = ({ s with pixsrc := v.getLsbD 1 } : State).refreshRequest) := by
  unfold State.writeLedCtrl
  cases h : v.getLsbD 0 <;> simp

/-- R202: everything a CLK can do. -/
theorem State.clkOnce_cases :
    (s.lbusy = false ∧ s.clkOnce = s.drives false) ∨
    (s.lbusy = true ∧ (s.lt + 1).toNat ≠ burstTotal s.cfg.nPix s.ltbit s.ltrst ∧
      s.clkOnce = { s.drives s.ledDout with lt := s.lt + 1 }) ∨
    (s.lbusy = true ∧ (s.lt + 1).toNat = burstTotal s.cfg.nPix s.ltbit s.ltrst ∧
      s.clkOnce = { s.drives s.ledDout with lbusy := false, lt := 0, irqPend := s.irqPend ||| irqLdone }) := by
  cases h : s.lbusy
  · exact .inl ⟨rfl, by simp [State.clkOnce, h]⟩
  · by_cases ht : (s.lt + 1).toNat = burstTotal s.cfg.nPix s.ltbit s.ltrst
    · exact .inr (.inr ⟨rfl, ht, by simp only [State.clkOnce, h, ht, if_true]⟩)
    · exact .inr (.inl ⟨rfl, ht, by simp only [State.clkOnce, h, ht, if_true, if_false]⟩)

/-- R212: everything a pixel write can do. -/
theorem State.writePixelSlot_cases (i : BitVec 8) (v : Word) :
    (s.cfg.nPix ≤ i.toNat ∧ s.writePixelSlot i v = s.signal .ignoredAccess) ∨
    (i.toNat < s.cfg.nPix ∧ s.lbusy = true ∧ s.writePixelSlot i v = s.dropWrite) ∨
    (i.toNat < s.cfg.nPix ∧ s.lbusy = false ∧
      s.writePixelSlot i v = { s with pix := s.pix.write i.toNat (writePixel v) }) := by
  unfold State.writePixelSlot
  by_cases h : i.toNat < s.cfg.nPix <;> cases hb : s.lbusy <;> simp [h] <;> omega

/-- R213: everything a pixel read can do. -/
theorem State.readPixel_cases (i : BitVec 8) :
    (s.cfg.nPix ≤ i.toNat ∧ s.cfg.pixReadSignals = true ∧ s.readPixel i = (s.returns 0).signal .ignoredAccess) ∨
    (s.cfg.nPix ≤ i.toNat ∧ s.cfg.pixReadSignals = false ∧ s.readPixel i = s.returns 0) ∨
    (i.toNat < s.cfg.nPix ∧ s.readPixel i = s.returns (pixelWord (s.pix.read i.toNat))) := by
  unfold State.readPixel
  by_cases h : i.toNat < s.cfg.nPix <;> cases hx : s.cfg.pixReadSignals <;> simp [h] <;> omega

end Sys2Proof.Machine
end

