-- ==== Sys2Proof/Laws/PerInstr.lean ====
section
/-! SUPPORT. Statements made for all instructions, one lemma for each constructor of Instr. The family TableRow holds
the encoder against the match and mask columns of spec/opcode_table.json, which were not used to write it. -/

namespace Sys2Proof.Laws

/-- The mask column of an operation's row. -/
def tableMask : Instr → Desc
  | .rdId => 0xFFFF#16
  | .rdDecStat => 0xFFFF#16
  | .rdMbStat => 0xFFFF#16
  | .rdSnap0 => 0xFFFF#16
  | .rdSnap1 => 0xFFFF#16
  | .rdSnap2 => 0xFFFF#16
  | .rdSnap3 => 0xFFFF#16
  | .rdSnap4 => 0xFFFF#16
  | .rdSnap5 => 0xFFFF#16
  | .rdSnap6 => 0xFFFF#16
  | .rdSnap7 => 0xFFFF#16
  | .rdSnap8 => 0xFFFF#16
  | .rdSnap9 => 0xFFFF#16
  | .rdSnap10 => 0xFFFF#16
  | .rdSnap11 => 0xFFFF#16
  | .rdSnap12 => 0xFFFF#16
  | .rdSnap13 => 0xFFFF#16
  | .rdSnap14 => 0xFFFF#16
  | .rdStale => 0xFFFF#16
  | .rdArbIn => 0xFFFF#16
  | .rdArbCfg => 0xFFFF#16
  | .rdArbStep => 0xFFFF#16
  | .rdArbStat => 0xFFFF#16
  | .rdLight => 0xFFFF#16
  | .rdLightRgb => 0xFFFF#16
  | .rdLightPos => 0xFFFF#16
  | .rdTick => 0xFFFF#16
  | .rdLedCtrl => 0xFFFF#16
  | .rdLedStat => 0xFFFF#16
  | .rdLedT0h => 0xFFFF#16
  | .rdLedT1h => 0xFFFF#16
  | .rdLedTbit => 0xFFFF#16
  | .rdLedTrst => 0xFFFF#16
  | .rdIrqPend => 0xFFFF#16
  | .rdIrqEn => 0xFFFF#16
  | .wrId _ => 0xFFFF#16
  | .wrDecStat _ => 0xFFFF#16
  | .wrMbStat _ => 0xFFFF#16
  | .wrSnap0 _ => 0xFFFF#16
  | .wrSnap1 _ => 0xFFFF#16
  | .wrSnap2 _ => 0xFFFF#16
  | .wrSnap3 _ => 0xFFFF#16
  | .wrSnap4 _ => 0xFFFF#16
  | .wrSnap5 _ => 0xFFFF#16
  | .wrSnap6 _ => 0xFFFF#16
  | .wrSnap7 _ => 0xFFFF#16
  | .wrSnap8 _ => 0xFFFF#16
  | .wrSnap9 _ => 0xFFFF#16
  | .wrSnap10 _ => 0xFFFF#16
  | .wrSnap11 _ => 0xFFFF#16
  | .wrSnap12 _ => 0xFFFF#16
  | .wrSnap13 _ => 0xFFFF#16
  | .wrSnap14 _ => 0xFFFF#16
  | .wrStale _ => 0xFFFF#16
  | .wrArbIn _ => 0xFFFF#16
  | .wrArbCfg _ => 0xFFFF#16
  | .wrArbStep _ => 0xFFFF#16
  | .wrArbStat _ => 0xFFFF#16
  | .wrLight _ => 0xFFFF#16
  | .wrLightRgb _ => 0xFFFF#16
  | .wrLightPos _ => 0xFFFF#16
  | .wrTick _ => 0xFFFF#16
  | .wrLedCtrl _ => 0xFFFF#16
  | .wrLedStat _ => 0xFFFF#16
  | .wrLedT0h _ => 0xFFFF#16
  | .wrLedT1h _ => 0xFFFF#16
  | .wrLedTbit _ => 0xFFFF#16
  | .wrLedTrst _ => 0xFFFF#16
  | .wrIrqPend _ => 0xFFFF#16
  | .wrIrqEn _ => 0xFFFF#16
  | .rdPix _ => 0xFC03#16
  | .wrPix _ _ => 0xFC03#16
  | .rdReserved00C => 0xFFFF#16
  | .wrReserved00C _ => 0xFFFF#16
  | .rdReserved090 _ => 0xFFF3#16
  | .wrReserved090 _ _ => 0xFFF3#16
  | .rdReserved0A0 _ => 0xFFE3#16
  | .wrReserved0A0 _ _ => 0xFFE3#16
  | .rdReserved0C0 _ => 0xFFC3#16
  | .wrReserved0C0 _ _ => 0xFFC3#16
  | .rdReserved100 _ => 0xFF03#16
  | .wrReserved100 _ _ => 0xFF03#16
  | .rdReserved200 _ => 0xFE03#16
  | .wrReserved200 _ _ => 0xFE03#16
  | .rdReserved800 _ => 0xF803#16
  | .wrReserved800 _ _ => 0xF803#16
  | .rdMisalignedOdd _ => 0xF001#16
  | .rdMisalignedHalf _ => 0xF003#16
  | .wrMisalignedOdd _ _ => 0xF001#16
  | .wrMisalignedHalf _ _ => 0xF003#16
  | .rx _ => 0xFFFF#16
  | .tick => 0xFFFF#16
  | .clk => 0xFFFF#16
  | .reset => 0xFFFF#16
  | .refusedEvt004 _ => 0xFFFC#16
  | .refusedEvt008 _ => 0xFFF8#16
  | .refusedEvt010 _ => 0xFFF0#16
  | .refusedEvt020 _ => 0xFFE0#16
  | .refusedEvt040 _ => 0xFFC0#16
  | .refusedEvt080 _ => 0xFF80#16
  | .refusedEvt100 _ => 0xFF00#16
  | .refusedEvt200 _ => 0xFE00#16
  | .refusedEvt400 _ => 0xFC00#16
  | .refusedEvt800 _ => 0xF800#16
  | .refusedCls11 _ => 0xC000#16
  | .refusedZ01 _ _ => 0x3000#16
  | .refusedZ1x _ _ _ => 0x2000#16

/-- The match column of an operation's row. -/
def tableMatch : Instr → Desc
  | .rdId => 0x0000#16
  | .rdDecStat => 0x0004#16
  | .rdMbStat => 0x0008#16
  | .rdSnap0 => 0x0010#16
  | .rdSnap1 => 0x0014#16
  | .rdSnap2 => 0x0018#16
  | .rdSnap3 => 0x001C#16
  | .rdSnap4 => 0x0020#16
  | .rdSnap5 => 0x0024#16
  | .rdSnap6 => 0x0028#16
  | .rdSnap7 => 0x002C#16
  | .rdSnap8 => 0x0030#16
  | .rdSnap9 => 0x0034#16
  | .rdSnap10 => 0x0038#16
  | .rdSnap11 => 0x003C#16
  | .rdSnap12 => 0x0040#16
  | .rdSnap13 => 0x0044#16
  | .rdSnap14 => 0x0048#16
  | .rdStale => 0x004C#16
  | .rdArbIn => 0x0050#16
  | .rdArbCfg => 0x0054#16
  | .rdArbStep => 0x0058#16
  | .rdArbStat => 0x005C#16
  | .rdLight => 0x0060#16
  | .rdLightRgb => 0x0064#16
  | .rdLightPos => 0x0068#16
  | .rdTick => 0x006C#16
  | .rdLedCtrl => 0x0070#16
  | .rdLedStat => 0x0074#16
  | .rdLedT0h => 0x0078#16
  | .rdLedT1h => 0x007C#16
  | .rdLedTbit => 0x0080#16
  | .rdLedTrst => 0x0084#16
  | .rdIrqPend => 0x0088#16
  | .rdIrqEn => 0x008C#16
  | .wrId _ => 0x4000#16
  | .wrDecStat _ => 0x4004#16
  | .wrMbStat _ => 0x4008#16
  | .wrSnap0 _ => 0x4010#16
  | .wrSnap1 _ => 0x4014#16
  | .wrSnap2 _ => 0x4018#16
  | .wrSnap3 _ => 0x401C#16
  | .wrSnap4 _ => 0x4020#16
  | .wrSnap5 _ => 0x4024#16
  | .wrSnap6 _ => 0x4028#16
  | .wrSnap7 _ => 0x402C#16
  | .wrSnap8 _ => 0x4030#16
  | .wrSnap9 _ => 0x4034#16
  | .wrSnap10 _ => 0x4038#16
  | .wrSnap11 _ => 0x403C#16
  | .wrSnap12 _ => 0x4040#16
  | .wrSnap13 _ => 0x4044#16
  | .wrSnap14 _ => 0x4048#16
  | .wrStale _ => 0x404C#16
  | .wrArbIn _ => 0x4050#16
  | .wrArbCfg _ => 0x4054#16
  | .wrArbStep _ => 0x4058#16
  | .wrArbStat _ => 0x405C#16
  | .wrLight _ => 0x4060#16
  | .wrLightRgb _ => 0x4064#16
  | .wrLightPos _ => 0x4068#16
  | .wrTick _ => 0x406C#16
  | .wrLedCtrl _ => 0x4070#16
  | .wrLedStat _ => 0x4074#16
  | .wrLedT0h _ => 0x4078#16
  | .wrLedT1h _ => 0x407C#16
  | .wrLedTbit _ => 0x4080#16
  | .wrLedTrst _ => 0x4084#16
  | .wrIrqPend _ => 0x4088#16
  | .wrIrqEn _ => 0x408C#16
  | .rdPix _ => 0x0400#16
  | .wrPix _ _ => 0x4400#16
  | .rdReserved00C => 0x000C#16
  | .wrReserved00C _ => 0x400C#16
  | .rdReserved090 _ => 0x0090#16
  | .wrReserved090 _ _ => 0x4090#16
  | .rdReserved0A0 _ => 0x00A0#16
  | .wrReserved0A0 _ _ => 0x40A0#16
  | .rdReserved0C0 _ => 0x00C0#16
  | .wrReserved0C0 _ _ => 0x40C0#16
  | .rdReserved100 _ => 0x0100#16
  | .wrReserved100 _ _ => 0x4100#16
  | .rdReserved200 _ => 0x0200#16
  | .wrReserved200 _ _ => 0x4200#16
  | .rdReserved800 _ => 0x0800#16
  | .wrReserved800 _ _ => 0x4800#16
  | .rdMisalignedOdd _ => 0x0001#16
  | .rdMisalignedHalf _ => 0x0002#16
  | .wrMisalignedOdd _ _ => 0x4001#16
  | .wrMisalignedHalf _ _ => 0x4002#16
  | .rx _ => 0x8000#16
  | .tick => 0x8001#16
  | .clk => 0x8002#16
  | .reset => 0x8003#16
  | .refusedEvt004 _ => 0x8004#16
  | .refusedEvt008 _ => 0x8008#16
  | .refusedEvt010 _ => 0x8010#16
  | .refusedEvt020 _ => 0x8020#16
  | .refusedEvt040 _ => 0x8040#16
  | .refusedEvt080 _ => 0x8080#16
  | .refusedEvt100 _ => 0x8100#16
  | .refusedEvt200 _ => 0x8200#16
  | .refusedEvt400 _ => 0x8400#16
  | .refusedEvt800 _ => 0x8800#16
  | .refusedCls11 _ => 0xC000#16
  | .refusedZ01 _ _ => 0x1000#16
  | .refusedZ1x _ _ _ => 0x2000#16

/-! Fixed bits around a field stay under a mask that clears the field. -/

theorem mask_all (d : Desc) : d &&& 0xFFFF#16 = d := BitVec.and_allOnes

theorem mask_suffix {a b : Nat} (p : BitVec a) (x : BitVec b) :
    (p ++ x) &&& (BitVec.allOnes a ++ 0#b) = p ++ 0#b := by
  rw [BitVec.and_append]
  simp

theorem mask_middle {a b c : Nat} (p : BitVec a) (x : BitVec b) (q : BitVec c) :
    (p ++ x ++ q) &&& (BitVec.allOnes a ++ 0#b ++ BitVec.allOnes c) = p ++ 0#b ++ q := by
  rw [BitVec.and_append, mask_suffix]
  simp

theorem mask_sides {a b c : Nat} (x : BitVec a) (p : BitVec b) (y : BitVec c) :
    (x ++ p ++ y) &&& (0#a ++ BitVec.allOnes b ++ 0#c) = 0#a ++ p ++ 0#c := by
  rw [BitVec.and_append, BitVec.and_append]
  simp

theorem mask_sides4 (cls : BitVec 2) (z0 : BitVec 1) (off : BitVec 12) :
    (cls ++ 0b1#1 ++ z0 ++ off) &&& 0x2000#16 = 0x2000#16 := by
  have h : (0x2000#16 : BitVec 16) = 0#2 ++ BitVec.allOnes 1 ++ 0#1 ++ 0#12 := by decide
  rw [h, BitVec.and_append, BitVec.and_append, BitVec.and_append]
  simp

/-- The encoder writes the fixed bits of the operation's table row. -/
def TableRow.Statement (i : Instr) : Prop := (encode i).desc &&& tableMask i = tableMatch i

namespace TableRow

theorem rdId : Statement .rdId := mask_all 0x0000#16
theorem rdDecStat : Statement .rdDecStat := mask_all 0x0004#16
theorem rdMbStat : Statement .rdMbStat := mask_all 0x0008#16
theorem rdSnap0 : Statement .rdSnap0 := mask_all 0x0010#16
theorem rdSnap1 : Statement .rdSnap1 := mask_all 0x0014#16
theorem rdSnap2 : Statement .rdSnap2 := mask_all 0x0018#16
theorem rdSnap3 : Statement .rdSnap3 := mask_all 0x001C#16
theorem rdSnap4 : Statement .rdSnap4 := mask_all 0x0020#16
theorem rdSnap5 : Statement .rdSnap5 := mask_all 0x0024#16
theorem rdSnap6 : Statement .rdSnap6 := mask_all 0x0028#16
theorem rdSnap7 : Statement .rdSnap7 := mask_all 0x002C#16
theorem rdSnap8 : Statement .rdSnap8 := mask_all 0x0030#16
theorem rdSnap9 : Statement .rdSnap9 := mask_all 0x0034#16
theorem rdSnap10 : Statement .rdSnap10 := mask_all 0x0038#16
theorem rdSnap11 : Statement .rdSnap11 := mask_all 0x003C#16
theorem rdSnap12 : Statement .rdSnap12 := mask_all 0x0040#16
theorem rdSnap13 : Statement .rdSnap13 := mask_all 0x0044#16
theorem rdSnap14 : Statement .rdSnap14 := mask_all 0x0048#16
theorem rdStale : Statement .rdStale := mask_all 0x004C#16
theorem rdArbIn : Statement .rdArbIn := mask_all 0x0050#16
theorem rdArbCfg : Statement .rdArbCfg := mask_all 0x0054#16
theorem rdArbStep : Statement .rdArbStep := mask_all 0x0058#16
theorem rdArbStat : Statement .rdArbStat := mask_all 0x005C#16
theorem rdLight : Statement .rdLight := mask_all 0x0060#16
theorem rdLightRgb : Statement .rdLightRgb := mask_all 0x0064#16
theorem rdLightPos : Statement .rdLightPos := mask_all 0x0068#16
theorem rdTick : Statement .rdTick := mask_all 0x006C#16
theorem rdLedCtrl : Statement .rdLedCtrl := mask_all 0x0070#16
theorem rdLedStat : Statement .rdLedStat := mask_all 0x0074#16
theorem rdLedT0h : Statement .rdLedT0h := mask_all 0x0078#16
theorem rdLedT1h : Statement .rdLedT1h := mask_all 0x007C#16
theorem rdLedTbit : Statement .rdLedTbit := mask_all 0x0080#16
theorem rdLedTrst : Statement .rdLedTrst := mask_all 0x0084#16
theorem rdIrqPend : Statement .rdIrqPend := mask_all 0x0088#16
theorem rdIrqEn : Statement .rdIrqEn := mask_all 0x008C#16
theorem wrId (v : Word) : Statement (.wrId v) := mask_all 0x4000#16
theorem wrDecStat (v : Word) : Statement (.wrDecStat v) := mask_all 0x4004#16
theorem wrMbStat (v : Word) : Statement (.wrMbStat v) := mask_all 0x4008#16
theorem wrSnap0 (v : Word) : Statement (.wrSnap0 v) := mask_all 0x4010#16
theorem wrSnap1 (v : Word) : Statement (.wrSnap1 v) := mask_all 0x4014#16
theorem wrSnap2 (v : Word) : Statement (.wrSnap2 v) := mask_all 0x4018#16
theorem wrSnap3 (v : Word) : Statement (.wrSnap3 v) := mask_all 0x401C#16
theorem wrSnap4 (v : Word) : Statement (.wrSnap4 v) := mask_all 0x4020#16
theorem wrSnap5 (v : Word) : Statement (.wrSnap5 v) := mask_all 0x4024#16
theorem wrSnap6 (v : Word) : Statement (.wrSnap6 v) := mask_all 0x4028#16
theorem wrSnap7 (v : Word) : Statement (.wrSnap7 v) := mask_all 0x402C#16
theorem wrSnap8 (v : Word) : Statement (.wrSnap8 v) := mask_all 0x4030#16
theorem wrSnap9 (v : Word) : Statement (.wrSnap9 v) := mask_all 0x4034#16
theorem wrSnap10 (v : Word) : Statement (.wrSnap10 v) := mask_all 0x4038#16
theorem wrSnap11 (v : Word) : Statement (.wrSnap11 v) := mask_all 0x403C#16
theorem wrSnap12 (v : Word) : Statement (.wrSnap12 v) := mask_all 0x4040#16
theorem wrSnap13 (v : Word) : Statement (.wrSnap13 v) := mask_all 0x4044#16
theorem wrSnap14 (v : Word) : Statement (.wrSnap14 v) := mask_all 0x4048#16
theorem wrStale (v : Word) : Statement (.wrStale v) := mask_all 0x404C#16
theorem wrArbIn (v : Word) : Statement (.wrArbIn v) := mask_all 0x4050#16
theorem wrArbCfg (v : Word) : Statement (.wrArbCfg v) := mask_all 0x4054#16
theorem wrArbStep (v : Word) : Statement (.wrArbStep v) := mask_all 0x4058#16
theorem wrArbStat (v : Word) : Statement (.wrArbStat v) := mask_all 0x405C#16
theorem wrLight (v : Word) : Statement (.wrLight v) := mask_all 0x4060#16
theorem wrLightRgb (v : Word) : Statement (.wrLightRgb v) := mask_all 0x4064#16
theorem wrLightPos (v : Word) : Statement (.wrLightPos v) := mask_all 0x4068#16
theorem wrTick (v : Word) : Statement (.wrTick v) := mask_all 0x406C#16
theorem wrLedCtrl (v : Word) : Statement (.wrLedCtrl v) := mask_all 0x4070#16
theorem wrLedStat (v : Word) : Statement (.wrLedStat v) := mask_all 0x4074#16
theorem wrLedT0h (v : Word) : Statement (.wrLedT0h v) := mask_all 0x4078#16
theorem wrLedT1h (v : Word) : Statement (.wrLedT1h v) := mask_all 0x407C#16
theorem wrLedTbit (v : Word) : Statement (.wrLedTbit v) := mask_all 0x4080#16
theorem wrLedTrst (v : Word) : Statement (.wrLedTrst v) := mask_all 0x4084#16
theorem wrIrqPend (v : Word) : Statement (.wrIrqPend v) := mask_all 0x4088#16
theorem wrIrqEn (v : Word) : Statement (.wrIrqEn v) := mask_all 0x408C#16
theorem rdPix (i : BitVec 8) : Statement (.rdPix i) := mask_middle 0b000001#6 i 0b00#2
theorem wrPix (i : BitVec 8) (v : Word) : Statement (.wrPix i v) := mask_middle 0b010001#6 i 0b00#2
theorem rdReserved00C : Statement .rdReserved00C := mask_all 0x000C#16
theorem wrReserved00C (v : Word) : Statement (.wrReserved00C v) := mask_all 0x400C#16
theorem rdReserved090 (x : BitVec 2) : Statement (.rdReserved090 x) := mask_middle 0b000000001001#12 x 0b00#2
theorem wrReserved090 (x : BitVec 2) (v : Word) : Statement (.wrReserved090 x v) := mask_middle 0b010000001001#12 x 0b00#2
theorem rdReserved0A0 (x : BitVec 3) : Statement (.rdReserved0A0 x) := mask_middle 0b00000000101#11 x 0b00#2
theorem wrReserved0A0 (x : BitVec 3) (v : Word) : Statement (.wrReserved0A0 x v) := mask_middle 0b01000000101#11 x 0b00#2
theorem rdReserved0C0 (x : BitVec 4) : Statement (.rdReserved0C0 x) := mask_middle 0b0000000011#10 x 0b00#2
theorem wrReserved0C0 (x : BitVec 4) (v : Word) : Statement (.wrReserved0C0 x v) := mask_middle 0b0100000011#10 x 0b00#2
theorem rdReserved100 (x : BitVec 6) : Statement (.rdReserved100 x) := mask_middle 0b00000001#8 x 0b00#2
theorem wrReserved100 (x : BitVec 6) (v : Word) : Statement (.wrReserved100 x v) := mask_middle 0b01000001#8 x 0b00#2
theorem rdReserved200 (x : BitVec 7) : Statement (.rdReserved200 x) := mask_middle 0b0000001#7 x 0b00#2
theorem wrReserved200 (x : BitVec 7) (v : Word) : Statement (.wrReserved200 x v) := mask_middle 0b0100001#7 x 0b00#2
theorem rdReserved800 (x : BitVec 9) : Statement (.rdReserved800 x) := mask_middle 0b00001#5 x 0b00#2
theorem wrReserved800 (x : BitVec 9) (v : Word) : Statement (.wrReserved800 x v) := mask_middle 0b01001#5 x 0b00#2
theorem rdMisalignedOdd (x : BitVec 11) : Statement (.rdMisalignedOdd x) := mask_middle 0b0000#4 x 0b1#1
theorem rdMisalignedHalf (x : BitVec 10) : Statement (.rdMisalignedHalf x) := mask_middle 0b0000#4 x 0b10#2
theorem wrMisalignedOdd (x : BitVec 11) (v : Word) : Statement (.wrMisalignedOdd x v) := mask_middle 0b0100#4 x 0b1#1
theorem wrMisalignedHalf (x : BitVec 10) (v : Word) : Statement (.wrMisalignedHalf x v) := mask_middle 0b0100#4 x 0b10#2
theorem rx (d : Byte) : Statement (.rx d) := mask_all 0x8000#16
theorem tick : Statement .tick := mask_all 0x8001#16
theorem clk : Statement .clk := mask_all 0x8002#16
theorem reset : Statement .reset := mask_all 0x8003#16
theorem refusedEvt004 (x : BitVec 2) : Statement (.refusedEvt004 x) := mask_suffix 0b10000000000001#14 x
theorem refusedEvt008 (x : BitVec 3) : Statement (.refusedEvt008 x) := mask_suffix 0b1000000000001#13 x
theorem refusedEvt010 (x : BitVec 4) : Statement (.refusedEvt010 x) := mask_suffix 0b100000000001#12 x
theorem refusedEvt020 (x : BitVec 5) : Statement (.refusedEvt020 x) := mask_suffix 0b10000000001#11 x
theorem refusedEvt040 (x : BitVec 6) : Statement (.refusedEvt040 x) := mask_suffix 0b1000000001#10 x
theorem refusedEvt080 (x : BitVec 7) : Statement (.refusedEvt080 x) := mask_suffix 0b100000001#9 x
theorem refusedEvt100 (x : BitVec 8) : Statement (.refusedEvt100 x) := mask_suffix 0b10000001#8 x
theorem refusedEvt200 (x : BitVec 9) : Statement (.refusedEvt200 x) := mask_suffix 0b1000001#7 x
theorem refusedEvt400 (x : BitVec 10) : Statement (.refusedEvt400 x) := mask_suffix 0b100001#6 x
theorem refusedEvt800 (x : BitVec 11) : Statement (.refusedEvt800 x) := mask_suffix 0b10001#5 x
theorem refusedCls11 (x : BitVec 14) : Statement (.refusedCls11 x) := mask_suffix 0b11#2 x
theorem refusedZ01 (cls : BitVec 2) (off : BitVec 12) : Statement (.refusedZ01 cls off) := mask_sides cls 0b01#2 off
theorem refusedZ1x (cls : BitVec 2) (z0 : BitVec 1) (off : BitVec 12) : Statement (.refusedZ1x cls z0 off) := by
  unfold Statement encode tableMask tableMatch
  exact mask_sides4 cls z0 off

end TableRow

end Sys2Proof.Laws
end

