-- ==== Sys2Proof/Laws/Step.lean ====
section
/-! SUPPORT. What a step can do, once: the shape of a step, and the inversion of exec over all operations, from which
the invariants and the frames follow. -/

namespace Sys2Proof.Machine

/-! ### The shape of a step -/

theorem step_idle {s : State} (h : s.pending = []) : step s = .next s := by
  unfold step
  rw [h]

theorem step_presented {s : State} {op : Op} {rest : List Op} (h : s.pending = op :: rest) :
    step s = exec (decode op) (s.startOp rest) := by
  unfold step
  rw [h]

/-- Everything a step that answers a next state can be: idle, or an operation on a started state. -/
theorem step_next_cases {s t : State} (h : step s = .next t) :
    (s.pending = [] ∧ t = s) ∨
    ∃ op rest, s.pending = op :: rest ∧ exec (decode op) (s.startOp rest) = .next t := by
  cases hp : s.pending with
  | nil =>
    rw [step_idle hp] at h
    cases h
    exact .inl ⟨rfl, rfl⟩
  | cons op rest =>
    rw [step_presented hp] at h
    exact .inr ⟨op, rest, rfl, h⟩

/-! ### Runs -/

theorem runInstrs_cons {i : Instr} {is : List Instr} {s t : State} (h : exec i s = .next t) :
    runInstrs (i :: is) s = runInstrs is t := by
  simp only [runInstrs, h]

theorem runInstrs_append {is js : List Instr} {s t : State} (h : runInstrs is s = .next t) :
    runInstrs (is ++ js) s = runInstrs js t := by
  induction is generalizing s with
  | nil => cases h; rfl
  | cons i is ih =>
    simp only [List.cons_append, runInstrs] at h ⊢
    cases he : exec i s with
    | next u => rw [he] at h; exact ih h
    | fault r => exact r.rec
    | refused r => rw [he] at h; cases h

/-- The host's run takes its first step where the step answers a next state. -/
theorem core_run_succ {k : Nat} {s t : State} (h : step s = .next t) :
    Sys2Proof.core.run (k + 1) s = Sys2Proof.core.run k t := by
  have hs : Sys2Proof.core.step s = .next t := h
  simp only [Host.Core.run, hs]

/-- n copies of an operation whose meaning is the total function f run f n times. -/
theorem runInstrs_replicate {i : Instr} {f : State → State} (hf : ∀ s, exec i s = .next (f s)) (n : Nat) (s : State) :
    runInstrs (List.replicate n i) s = .next (f^[n] s) := by
  induction n generalizing s with
  | zero => rfl
  | succ n ih =>
    rw [List.replicate_succ, runInstrs_cons (hf s), ih (f s)]
    rfl

/-! ### Everything an operation can do -/

/-- Whenever an operation answers a next state, that state is one of these; a read of anything but a fresh mailbox is
the first line, an ignored write the second. -/
theorem exec_next_cases {i : Instr} {s t : State} (h : exec i s = .next t) :
    (∃ w cs, t = { s with out := .readData w, conds := cs }) ∨
    (∃ cs, t = { s with conds := cs }) ∨
    (i = .rdMbStat ∧ t = (s.returns (mbStatWord s.ovr s.fresh)).takeRecord) ∨
    (∃ d, i = .rx d ∧ t = s.rxByte d) ∨
    (∃ v, i = .wrArbIn v ∧ t = { s with arbIn := v &&& arbInMask }) ∨
    (∃ v, i = .wrArbCfg v ∧ t = { s with arbCfg := v &&& arbCfgMask }) ∨
    (∃ v, i = .wrArbStep v ∧ t = s.arbStep) ∨
    (i = .tick ∧ t = s.tickOnce) ∨
    (∃ v, i = .wrLedCtrl v ∧ t = s.writeLedCtrl v) ∨
    (∃ v, i = .wrLedStat v ∧ t = s.writeLedStat v) ∨
    (∃ v, i = .wrLedT0h v ∧ t = if s.lbusy then s.dropWrite else { s with ledT0h := writeHalf v }) ∨
    (∃ v, i = .wrLedT1h v ∧ t = if s.lbusy then s.dropWrite else { s with ledT1h := writeHalf v }) ∨
    (∃ v, i = .wrLedTbit v ∧ t = if s.lbusy then s.dropWrite else { s with ledTbit := writeHalf v }) ∨
    (∃ v, i = .wrLedTrst v ∧ t = if s.lbusy then s.dropWrite else { s with ledTrst := writeHalf v }) ∨
    (∃ n v, i = .wrPix n v ∧ t = s.writePixelSlot n v) ∨
    (∃ v, i = .wrIrqPend v ∧ t = { s with irqPend := clearOnes s.irqPend (writeIrq v) }) ∨
    (∃ v, i = .wrIrqEn v ∧ t = { s with irqEn := writeIrq v }) ∨
    (i = .clk ∧ t = s.clkOnce) ∨
    (i = .reset ∧ t = s.resetBlock) := by
  cases i with
  | rdPix n =>
    cases h
    rcases s.readPixel_cases n with ⟨_, _, h⟩ | ⟨_, _, h⟩ | ⟨_, h⟩ <;> rw [h] <;> exact .inl ⟨_, _, rfl⟩
  | rdMbStat => cases h; simp
  | rx d => cases h; simp
  | wrArbIn v => cases h; simp
  | wrArbCfg v => cases h; simp
  | wrArbStep v => cases h; simp
  | tick => cases h; simp
  | wrLedCtrl v => cases h; simp
  | wrLedStat v => cases h; simp
  | wrLedT0h v => cases h; simp
  | wrLedT1h v => cases h; simp
  | wrLedTbit v => cases h; simp
  | wrLedTrst v => cases h; simp
  | wrPix n v => cases h; simp
  | wrIrqPend v => cases h; simp
  | wrIrqEn v => cases h; simp
  | clk => cases h; simp
  | reset => cases h; simp
  | _ => cases h <;> first | exact .inl ⟨_, _, rfl⟩ | exact .inr (.inl ⟨_, rfl⟩)

/-- The operations that exec refuses are the rows of reserved descriptors, each with its own descriptor (R82). -/
theorem exec_total (i : Instr) (s : State) :
    (∃ t, exec i s = .next t) ∨ exec i s = .refused (.descReserved (encode i).desc) := by
  cases i <;> first | exact .inl ⟨_, rfl⟩ | exact .inr rfl

/-! ### The operations of a clock cycle -/

theorem PortInputs.ops_in_reset {p : PortInputs} (h : p.rstN = false) : p.ops = p.resetOps := by
  simp [PortInputs.ops, h]

theorem PortInputs.resetOps_reading_id {p : PortInputs} {v : Word}
    (h : p.bus = some { write := false, addr := 0x000#12, wdata := v }) :
    p.resetOps = [resetOp, { desc := 0x0000#16, wdata := v }] := by
  simp [PortInputs.resetOps, h, BusAccess.readsId, BusAccess.op]

theorem PortInputs.resetOps_else {p : PortInputs}
    (h : ∀ v, p.bus ≠ some { write := false, addr := 0x000#12, wdata := v }) : p.resetOps = [resetOp] := by
  rcases hb : p.bus with _ | ⟨w, a, v⟩
  · simp [PortInputs.resetOps, hb]
  · have hw : w = false → a ≠ 0x000#12 := by
      rintro rfl rfl
      exact h v hb
    simpa [PortInputs.resetOps, hb, BusAccess.readsId] using hw

end Sys2Proof.Machine
end

