-- ==== Sys2Proof/Tests/Slice0.lean ====
section
/-! SUPPORT. The model's own tests. Words and expected results are written out from spec/opcode_table.json and
spec/95_test_vectors.md, whose vector is named at each test. The last part gives, for each statement that has
hypotheses, a state and operands that meet them. -/

namespace Sys2Proof.Tests

open Sys2Proof.Machine

/-- The state after one operation; the state itself where the operation does not answer one. -/
def after (i : Instr) (s : State) : State :=
  match exec i s with
  | .next t => t
  | .fault _ => s
  | .refused _ => s

/-- Whether an operation is refused. -/
def isRefused (i : Instr) (s : State) : Bool :=
  match exec i s with
  | .next _ => false
  | .fault _ => false
  | .refused _ => true

/-- A block of one pixel with the timing of 95_test_vectors.md section 2.7, idle. -/
def onePixel : State :=
  { State.resetOf { Config.reference with nPix := 1 } 0 with
    ledT0h := 1, ledT1h := 2, ledTbit := 3, ledTrst := 4, pix := [0x800001#24] }

/-- The same block with a burst accepted. -/
def bursting : State := after (.wrLedCtrl 1) onePixel

/-- A decoder that has all of a frame but its last byte: sync bytes, zeros, and so the sum 0x008F. -/
def lastByte : State :=
  { State.reset with
    dstate := .collecting, dcnt := 31, dbuf := ((Vector.replicate 32 0).set 0 0x42#8).set 1 0x4D#8 }

/-! ### Well-formedness: the ill-formed terms are refused, and their words read as another row -/

theorem test_wellFormed_refuses_z01_of_class_11 : (Instr.refusedZ01 0b11#2 0#12).wellFormed = false := by decide
theorem test_wellFormed_refuses_z1x_of_class_11 : (Instr.refusedZ1x 0b11#2 1#1 0#12).wellFormed = false := by decide
theorem test_wellFormed_accepts_the_other_classes :
    (Instr.refusedZ01 0b10#2 0#12).wellFormed = true ∧ (Instr.refusedZ1x 0b00#2 1#1 0#12).wellFormed = true ∧
    (Instr.refusedCls11 0#14).wellFormed = true ∧ (Instr.wrPix 255#8 0).wellFormed = true := by
  decide
theorem test_class_11_is_read_before_z : decode ⟨0xD000#16, 0, 0⟩ = .refusedCls11 0x1000#14 := by decide

/-! ### Decoding: a word of every row of the opcode table -/

theorem test_decode_reads_1 :
    decode ⟨0x0000#16, 7, 9⟩ = .rdId ∧
    decode ⟨0x0004#16, 7, 9⟩ = .rdDecStat ∧
    decode ⟨0x0008#16, 7, 9⟩ = .rdMbStat ∧
    decode ⟨0x0010#16, 7, 9⟩ = .rdSnap0 ∧
    decode ⟨0x0014#16, 7, 9⟩ = .rdSnap1 ∧
    decode ⟨0x0018#16, 7, 9⟩ = .rdSnap2 ∧
    decode ⟨0x001C#16, 7, 9⟩ = .rdSnap3 ∧
    decode ⟨0x0020#16, 7, 9⟩ = .rdSnap4 ∧
    decode ⟨0x0024#16, 7, 9⟩ = .rdSnap5 ∧
    decode ⟨0x0028#16, 7, 9⟩ = .rdSnap6 ∧
    decode ⟨0x002C#16, 7, 9⟩ = .rdSnap7 ∧
    decode ⟨0x0030#16, 7, 9⟩ = .rdSnap8 ∧
    decode ⟨0x0034#16, 7, 9⟩ = .rdSnap9 ∧
    decode ⟨0x0038#16, 7, 9⟩ = .rdSnap10 ∧
    decode ⟨0x003C#16, 7, 9⟩ = .rdSnap11 ∧
    decode ⟨0x0040#16, 7, 9⟩ = .rdSnap12 ∧
    decode ⟨0x0044#16, 7, 9⟩ = .rdSnap13 ∧
    decode ⟨0x0048#16, 7, 9⟩ = .rdSnap14 ∧
    decode ⟨0x004C#16, 7, 9⟩ = .rdStale := by
  decide

theorem test_decode_reads_2 :
    decode ⟨0x0050#16, 7, 9⟩ = .rdArbIn ∧
    decode ⟨0x0054#16, 7, 9⟩ = .rdArbCfg ∧
    decode ⟨0x0058#16, 7, 9⟩ = .rdArbStep ∧
    decode ⟨0x005C#16, 7, 9⟩ = .rdArbStat ∧
    decode ⟨0x0060#16, 7, 9⟩ = .rdLight ∧
    decode ⟨0x0064#16, 7, 9⟩ = .rdLightRgb ∧
    decode ⟨0x0068#16, 7, 9⟩ = .rdLightPos ∧
    decode ⟨0x006C#16, 7, 9⟩ = .rdTick ∧
    decode ⟨0x0070#16, 7, 9⟩ = .rdLedCtrl ∧
    decode ⟨0x0074#16, 7, 9⟩ = .rdLedStat ∧
    decode ⟨0x0078#16, 7, 9⟩ = .rdLedT0h ∧
    decode ⟨0x007C#16, 7, 9⟩ = .rdLedT1h ∧
    decode ⟨0x0080#16, 7, 9⟩ = .rdLedTbit ∧
    decode ⟨0x0084#16, 7, 9⟩ = .rdLedTrst ∧
    decode ⟨0x0088#16, 7, 9⟩ = .rdIrqPend ∧
    decode ⟨0x008C#16, 7, 9⟩ = .rdIrqEn ∧
    decode ⟨0x06A8#16, 7, 9⟩ = .rdPix 0b10101010#8 := by
  decide

theorem test_decode_writes_1 :
    decode ⟨0x4000#16, 7, 9⟩ = .wrId 7#32 ∧
    decode ⟨0x4004#16, 7, 9⟩ = .wrDecStat 7#32 ∧
    decode ⟨0x4008#16, 7, 9⟩ = .wrMbStat 7#32 ∧
    decode ⟨0x4010#16, 7, 9⟩ = .wrSnap0 7#32 ∧
    decode ⟨0x4014#16, 7, 9⟩ = .wrSnap1 7#32 ∧
    decode ⟨0x4018#16, 7, 9⟩ = .wrSnap2 7#32 ∧
    decode ⟨0x401C#16, 7, 9⟩ = .wrSnap3 7#32 ∧
    decode ⟨0x4020#16, 7, 9⟩ = .wrSnap4 7#32 ∧
    decode ⟨0x4024#16, 7, 9⟩ = .wrSnap5 7#32 ∧
    decode ⟨0x4028#16, 7, 9⟩ = .wrSnap6 7#32 ∧
    decode ⟨0x402C#16, 7, 9⟩ = .wrSnap7 7#32 ∧
    decode ⟨0x4030#16, 7, 9⟩ = .wrSnap8 7#32 ∧
    decode ⟨0x4034#16, 7, 9⟩ = .wrSnap9 7#32 ∧
    decode ⟨0x4038#16, 7, 9⟩ = .wrSnap10 7#32 ∧
    decode ⟨0x403C#16, 7, 9⟩ = .wrSnap11 7#32 ∧
    decode ⟨0x4040#16, 7, 9⟩ = .wrSnap12 7#32 ∧
    decode ⟨0x4044#16, 7, 9⟩ = .wrSnap13 7#32 ∧
    decode ⟨0x4048#16, 7, 9⟩ = .wrSnap14 7#32 ∧
    decode ⟨0x404C#16, 7, 9⟩ = .wrStale 7#32 := by
  decide

theorem test_decode_writes_2 :
    decode ⟨0x4050#16, 7, 9⟩ = .wrArbIn 7#32 ∧
    decode ⟨0x4054#16, 7, 9⟩ = .wrArbCfg 7#32 ∧
    decode ⟨0x4058#16, 7, 9⟩ = .wrArbStep 7#32 ∧
    decode ⟨0x405C#16, 7, 9⟩ = .wrArbStat 7#32 ∧
    decode ⟨0x4060#16, 7, 9⟩ = .wrLight 7#32 ∧
    decode ⟨0x4064#16, 7, 9⟩ = .wrLightRgb 7#32 ∧
    decode ⟨0x4068#16, 7, 9⟩ = .wrLightPos 7#32 ∧
    decode ⟨0x406C#16, 7, 9⟩ = .wrTick 7#32 ∧
    decode ⟨0x4070#16, 7, 9⟩ = .wrLedCtrl 7#32 ∧
    decode ⟨0x4074#16, 7, 9⟩ = .wrLedStat 7#32 ∧
    decode ⟨0x4078#16, 7, 9⟩ = .wrLedT0h 7#32 ∧
    decode ⟨0x407C#16, 7, 9⟩ = .wrLedT1h 7#32 ∧
    decode ⟨0x4080#16, 7, 9⟩ = .wrLedTbit 7#32 ∧
    decode ⟨0x4084#16, 7, 9⟩ = .wrLedTrst 7#32 ∧
    decode ⟨0x4088#16, 7, 9⟩ = .wrIrqPend 7#32 ∧
    decode ⟨0x408C#16, 7, 9⟩ = .wrIrqEn 7#32 ∧
    decode ⟨0x46A8#16, 7, 9⟩ = .wrPix 0b10101010#8 7#32 := by
  decide

theorem test_decode_reserved_offsets :
    decode ⟨0x000C#16, 7, 9⟩ = .rdReserved00C ∧
    decode ⟨0x400C#16, 7, 9⟩ = .wrReserved00C 7#32 ∧
    decode ⟨0x0098#16, 7, 9⟩ = .rdReserved090 0b10#2 ∧
    decode ⟨0x4098#16, 7, 9⟩ = .wrReserved090 0b10#2 7#32 ∧
    decode ⟨0x00B4#16, 7, 9⟩ = .rdReserved0A0 0b101#3 ∧
    decode ⟨0x40B4#16, 7, 9⟩ = .wrReserved0A0 0b101#3 7#32 ∧
    decode ⟨0x00E8#16, 7, 9⟩ = .rdReserved0C0 0b1010#4 ∧
    decode ⟨0x40E8#16, 7, 9⟩ = .wrReserved0C0 0b1010#4 7#32 ∧
    decode ⟨0x01A8#16, 7, 9⟩ = .rdReserved100 0b101010#6 ∧
    decode ⟨0x41A8#16, 7, 9⟩ = .wrReserved100 0b101010#6 7#32 ∧
    decode ⟨0x0354#16, 7, 9⟩ = .rdReserved200 0b1010101#7 ∧
    decode ⟨0x4354#16, 7, 9⟩ = .wrReserved200 0b1010101#7 7#32 ∧
    decode ⟨0x0D54#16, 7, 9⟩ = .rdReserved800 0b101010101#9 ∧
    decode ⟨0x4D54#16, 7, 9⟩ = .wrReserved800 0b101010101#9 7#32 := by
  decide

theorem test_decode_misaligned_offsets :
    decode ⟨0x0AAB#16, 7, 9⟩ = .rdMisalignedOdd 0b10101010101#11 ∧
    decode ⟨0x0AAA#16, 7, 9⟩ = .rdMisalignedHalf 0b1010101010#10 ∧
    decode ⟨0x4AAB#16, 7, 9⟩ = .wrMisalignedOdd 0b10101010101#11 7#32 ∧
    decode ⟨0x4AAA#16, 7, 9⟩ = .wrMisalignedHalf 0b1010101010#10 7#32 := by
  decide

theorem test_decode_events :
    decode ⟨0x8000#16, 7, 9⟩ = .rx 9#8 ∧
    decode ⟨0x8001#16, 7, 9⟩ = .tick ∧
    decode ⟨0x8002#16, 7, 9⟩ = .clk ∧
    decode ⟨0x8003#16, 7, 9⟩ = .reset := by
  decide

theorem test_decode_refused_rows :
    decode ⟨0x8006#16, 7, 9⟩ = .refusedEvt004 0b10#2 ∧
    decode ⟨0x800D#16, 7, 9⟩ = .refusedEvt008 0b101#3 ∧
    decode ⟨0x801A#16, 7, 9⟩ = .refusedEvt010 0b1010#4 ∧
    decode ⟨0x8035#16, 7, 9⟩ = .refusedEvt020 0b10101#5 ∧
    decode ⟨0x806A#16, 7, 9⟩ = .refusedEvt040 0b101010#6 ∧
    decode ⟨0x80D5#16, 7, 9⟩ = .refusedEvt080 0b1010101#7 ∧
    decode ⟨0x81AA#16, 7, 9⟩ = .refusedEvt100 0b10101010#8 ∧
    decode ⟨0x8355#16, 7, 9⟩ = .refusedEvt200 0b101010101#9 ∧
    decode ⟨0x86AA#16, 7, 9⟩ = .refusedEvt400 0b1010101010#10 ∧
    decode ⟨0x8D55#16, 7, 9⟩ = .refusedEvt800 0b10101010101#11 ∧
    decode ⟨0xEAAA#16, 7, 9⟩ = .refusedCls11 0b10101010101010#14 ∧
    decode ⟨0x9AAA#16, 7, 9⟩ = .refusedZ01 0b10#2 0xAAA#12 ∧
    decode ⟨0x7555#16, 7, 9⟩ = .refusedZ1x 0b01#2 0b1#1 0x555#12 := by
  decide

/-- The operand of a table word stands above the descriptor. -/
theorem test_table_word_operands :
    decodeTableWord 24 0x428000 = some (.rx 0x42#8) ∧ decodeTableWord 48 0x0000001F4050 = some (.wrArbIn 0x1F#32) ∧
    decodeTableWord 16 0x8000 = some (.rx 0#8) := by
  decide

/-! ### One operation -/

/-- L1-8, R231. -/
theorem test_rdId : (after .rdId State.reset).out = .readData 0x56330001#32 := by decide
/-- D-DEC-1, D-DEC-2. -/
theorem test_rx_sync_bytes :
    (after .rdDecStat (after (.rx 0x42#8) State.reset)).out = .readData 0x101#32 ∧
    (after .rdDecStat (after (.rx 0x4D#8) (after (.rx 0x42#8) State.reset))).out = .readData 0x202#32 := by
  decide
/-- D-DEC-6: the second 0x42 is consumed. -/
theorem test_rx_second_sync_byte_consumed : (after (.rx 0x42#8) (after (.rx 0x42#8) State.reset)).dstate = .awaitSync1 ∧
    (after (.rx 0x42#8) (after (.rx 0x42#8) State.reset)).conds = [.syncLost] := by
  decide
/-- R107: the last byte publishes; word 14 is the checksum. -/
theorem test_rx_publishes : (after (.rx 0x8F#8) lastByte).fresh = true ∧ (after (.rx 0x8F#8) lastByte).mb[14] = 0x8F#16 ∧
    (after (.rx 0x8F#8) lastByte).irqPend = 1#3 ∧ (after (.rx 0x8F#8) lastByte).dcnt = 0 := by
  decide
/-- L1-11: a wrong checksum publishes nothing. -/
theorem test_rx_discards : (after (.rx 0x90#8) lastByte).fresh = false ∧ (after (.rx 0x90#8) lastByte).dstate = .awaitSync1 ∧
    (after (.rx 0x90#8) lastByte).conds = [.checksumFail] := by
  decide
/-- D-DEC-10: FRESH and OVR read 3 and are taken. -/
theorem test_rdMbStat : (after .rdMbStat { State.reset with fresh := true, ovr := true }).out = .readData 3#32 ∧
    (after .rdMbStat { State.reset with fresh := true, ovr := true }).fresh = false := by
  decide
/-- R111, R125: the first and the last snapshot word. -/
theorem test_rdSnap : (after .rdSnap0 { State.reset with snap := (Vector.replicate 15 0).set 0 0xFFFF#16 }).out = .readData 0xFFFF#32 ∧
    (after .rdSnap14 { State.reset with snap := (Vector.replicate 15 0).set 14 0xF9#16 }).out = .readData 0xF9#32 := by
  decide
/-- D-STL-3, D-STL-5. -/
theorem test_rdStale : (after .rdStale { State.reset with scnt := 0x1E#8, stale := true }).out = .readData 0x11E#32 ∧
    (after .rdStale { State.reset with scnt := 0x1F#8, stale := true, rss := true }).out = .readData 0x31F#32 := by
  decide
/-- D-ARB-17. -/
theorem test_wrArbIn_mask : (after (.wrArbIn 0xFFFFFFFF#32) State.reset).arbIn = 0x71F#32 := by decide
/-- R143. -/
theorem test_wrArbCfg_mask : (after (.wrArbCfg 0xFFFFFFFF#32) State.reset).arbCfg = 0xF#32 := by decide
/-- L1-8 fire, D-ARB-9, D-ARB-8, D-ARB-4. -/
theorem test_step_arbStat :
    (after (.wrArbStep 0) { State.reset with arbIn := 0x001#32 }).arbStat = 0x00010321#32 ∧
    (after (.wrArbStep 0) { State.reset with arbIn := 0x71F#32 }).arbStat = 0x00011313#32 ∧
    (after (.wrArbStep 0) { State.reset with arbIn := 0x401#32 }).arbStat = 0x00013321#32 ∧
    (after (.wrArbStep 0) { State.reset with arbIn := 0x108#32 }).arbStat = 0x00001013#32 := by
  decide
/-- Section 2.5: D-LGT-4 and the flash phase at the top of the time base. -/
theorem test_step_light :
    (after (.wrArbStep 0) { State.reset with arbCfg := 8, tick := 13 }).lightPos = 5#32 ∧
    (after (.wrArbStep 0) { State.reset with arbIn := 2, tick := 0xFFFFFFFF#32 }).light = 0x502#32 ∧
    (after (.wrArbStep 0) { State.reset with arbIn := 0x10, tick := 0xFFFFFFF9#32 }).light = 0xA12#32 := by
  decide
/-- D-ARB-16. -/
theorem test_rdArbStep : (after .rdArbStep { State.reset with scnt := 4 }).out = .readData 0#32 ∧
    (after .rdArbStep { State.reset with scnt := 4 }).scnt = 4#8 := by
  decide
/-- R142, R144, R158-R161, R163: each read returns its own register. -/
theorem test_arbitrator_reads :
    let s := { State.reset with arbIn := 1, arbCfg := 2, arbStat := 3, light := 0x11, lightRgb := 5, lightPos := 6, tick := 7 }
    (after .rdArbIn s).out = .readData 1 ∧ (after .rdArbCfg s).out = .readData 2 ∧ (after .rdArbStat s).out = .readData 3 ∧
    (after .rdLight s).out = .readData 0x11 ∧ (after .rdLightRgb s).out = .readData 5 ∧
    (after .rdLightPos s).out = .readData 6 ∧ (after .rdTick s).out = .readData 7 := by
  decide
/-- D-TCK-2. -/
theorem test_tick_wraps : (after .tick { State.reset with tick := 0xFFFFFFFF#32 }).tick = 0#32 := by decide
/-- D-LED-1's bits: green 00000000, red 10000000, blue 00000001. -/
theorem test_wrLedCtrl_latches_bits : bursting.lbusy = true ∧ bursting.lbits.length = 24 ∧
    bursting.lbits[8]? = some true ∧ bursting.lbits[23]? = some true ∧ bursting.lbits.countP (· == true) = 2 := by
  decide
/-- D-LED-6 and D-LED-7. -/
theorem test_wrLedCtrl_refuses_bad_timing :
    (after (.wrLedCtrl 1) { onePixel with ledT1h := 3 }).cfgerr = true ∧
    (after (.wrLedCtrl 1) { onePixel with ledTrst := 0 }).cfgerr = true ∧
    (after (.wrLedCtrl 1) { onePixel with ledTrst := 0 }).lbusy = false := by
  decide
/-- D-LED-9, D-LED-10, D-LED-11: LED_STAT 9, then D, then 1. -/
theorem test_rdLedStat :
    (after .rdLedStat (after (.wrLedCtrl 1) bursting)).out = .readData 9#32 ∧
    (after .rdLedStat (after (.wrLedT0h 7) (after (.wrLedCtrl 1) bursting))).out = .readData 0xD#32 ∧
    (after .rdLedStat (after (.wrLedStat 0xE) (after (.wrLedT0h 7) (after (.wrLedCtrl 1) bursting)))).out = .readData 1#32 := by
  decide
/-- D-LED-16. -/
theorem test_rdLedCtrl : (after .rdLedCtrl (after (.wrLedCtrl 2) State.reset)).out = .readData 2#32 ∧
    (after (.wrLedCtrl 2) State.reset).lbusy = false := by
  decide
/-- R204-R211: each timing register is written and read at its own offset. -/
theorem test_timing_registers :
    (after .rdLedT0h (after (.wrLedT0h 0x10001#32) State.reset)).out = .readData 1 ∧
    (after .rdLedT1h (after (.wrLedT1h 2) State.reset)).out = .readData 2 ∧
    (after .rdLedTbit (after (.wrLedTbit 3) State.reset)).out = .readData 3 ∧
    (after .rdLedTrst (after (.wrLedTrst 4) State.reset)).out = .readData 4 ∧
    (after .rdLedTrst State.reset).out = .readData 960 := by
  decide
/-- D-LED-1, section 2.7's waveform: cycle 1 of a 0 bit is low, of bit 8, a 1, it is high. -/
theorem test_clk_levels :
    (after .clk bursting).out = .lineLevel true ∧ (after .clk { bursting with lt := 1 }).out = .lineLevel false ∧
    (after .clk { bursting with lt := 25 }).out = .lineLevel true ∧ (after .clk { bursting with lt := 26 }).out = .lineLevel false ∧
    (after .clk { bursting with lt := 72 }).out = .lineLevel false := by
  decide
/-- D-LED-14: the 76th CLK ends the burst. -/
theorem test_clk_ends_burst :
    (after .clk { bursting with lt := 75 }).lbusy = false ∧ (after .clk { bursting with lt := 75 }).irqPend = 2#3 ∧
    (after .clk { bursting with lt := 74 }).lbusy = true := by
  decide
/-- D-LED-13, D-LED-12: slots 0 and 1 of a one-pixel strip. -/
theorem test_wrPix :
    (after (.wrPix 0 0xFF000123#32) onePixel).pix = [0x000123#24] ∧ (after (.wrPix 0 1) bursting).wdrop = true ∧
    (after (.wrPix 1 1) bursting).wdrop = false ∧ (after (.wrPix 1 1) bursting).conds = [.ignoredAccess] := by
  decide
/-- R213. -/
theorem test_rdPix :
    (after (.rdPix 0) onePixel).out = .readData 0x00800001#32 ∧ (after (.rdPix 1) onePixel).out = .readData 0 ∧
    (after (.rdPix 1) onePixel).conds = [] ∧
    (after (.rdPix 1) { onePixel with cfg := { onePixel.cfg with pixReadSignals := true } }).conds =
      [.ignoredAccess] := by
  decide
/-- R232-R235. -/
theorem test_interrupt_registers :
    (after .rdIrqPend { State.reset with irqPend := 5 }).out = .readData 5 ∧
    (after .rdIrqEn (after (.wrIrqEn 0xC) State.reset)).out = .readData 4 ∧
    (after (.wrIrqPend 4) { State.reset with irqPend := 5 }).irqPend = 1#3 := by
  decide
/-- R236, D-DEC-14, D-TCK-3: writes to read-only registers. -/
theorem test_read_only_writes :
    (after (.wrMbStat 0) { State.reset with fresh := true }).fresh = true ∧
    (after (.wrTick 0) { State.reset with tick := 5 }).tick = 5#32 := by
  decide
/-- D-ENC-9, D-ENC-10, D-ENC-11. -/
theorem test_ignored_accesses :
    (after (decode ⟨0x0009#16, 0, 0⟩) { State.reset with fresh := true }).fresh = true ∧
    (after (decode ⟨0x4059#16, 0, 0⟩) State.reset).scnt = 0#8 ∧
    (after (decode ⟨0x000C#16, 0, 0⟩) State.reset).out = .readData 0 := by
  decide
/-- D-ENC-6 to D-ENC-8. -/
theorem test_refused : isRefused (decode ⟨0xC000#16, 0, 0⟩) State.reset = true ∧
    isRefused (decode ⟨0x1000#16, 0, 0⟩) State.reset = true ∧ isRefused (decode ⟨0x8004#16, 0, 0⟩) State.reset = true := by
  decide
/-- R274's example, and R272: a burst is stopped without LDONE. -/
theorem test_reset :
    (after .reset { State.reset with arbStat := 0x00010343#32, tick := 5 }).arbStat = 0 ∧
    (after .reset { State.reset with arbStat := 0x00010343#32, tick := 5 }).tick = 0 ∧
    (after .reset bursting).lbusy = false ∧ (after .reset bursting).irqPend = 0#3 := by
  decide
/-- R271: a cycle in reset presents RESET alone; R231: a read of ID is answered during reset too. -/
theorem test_cycle_in_reset :
    ({ rstN := false, bus := none, rx := some 1, tick := true } : PortInputs).ops = [resetOp] ∧
    ({ rstN := false, bus := some ⟨false, 0x004#12, 0⟩, rx := none, tick := false } : PortInputs).ops = [resetOp] ∧
    (({ rstN := false, bus := some ⟨false, 0x000#12, 0⟩, rx := some 1, tick := true } : PortInputs).ops.map
      fun op => decode op) = [.reset, .rdId] := by
  decide

/-! ### Witnesses: the hypotheses of each statement, met together -/

theorem witness_DecodeOfEncodeIsIdentity : (Instr.refusedZ1x 0b10#2 1#1 0xFFF#12).wellFormed = true := by decide

theorem witness_EncodeOfDecodeKeepsDescriptorAndOperands :
    (0x4FFF#16).extractLsb' 12 4 = 0b0100#4 ∧ (encode (decode ⟨0x4FFF#16, 5, 0⟩)).wdata = 5 ∧
    (encode (decode ⟨0x8000#16, 0, 255⟩)).rxData = 255 := by
  decide

theorem witness_ExactlyReservedDescriptorsAreRefused :
    (0xFFFF#16).extractLsb' 14 2 = 0b11#2 ∧ (0x1000#16).extractLsb' 12 2 ≠ 0b00#2 ∧
    ((0x8004#16).extractLsb' 12 4 = 0b1000#4 ∧ 0x004 ≤ ((0x8004#16).extractLsb' 0 12).toNat) ∧
    ((0x8FFF#16).extractLsb' 12 4 = 0b1000#4 ∧ 0x004 ≤ ((0x8FFF#16).extractLsb' 0 12).toNat) ∧
    ((0x8003#16).extractLsb' 12 4 = 0b1000#4 ∧ ((0x8003#16).extractLsb' 0 12).toNat < 0x004) ∧
    (0x0FFF#16).extractLsb' 12 4 = 0b0000#4 ∧ (0x4FFF#16).extractLsb' 12 4 = 0b0100#4 := by
  decide

theorem witness_StepRunsPresentedOperation :
    { State.reset with pending := [tickOp, clkOp] }.pending = tickOp :: [clkOp] ∧ State.reset.pending = [] := by
  decide

theorem reset_inv : Inv State.reset :=
  ⟨by decide, rfl, by decide, by decide, by decide, by decide, by decide, by decide, by decide⟩

theorem onePixel_inv : Inv onePixel :=
  ⟨by decide, rfl, by decide, by decide, by decide, by decide, by decide, by decide, by decide⟩

theorem lastByte_inv : Inv lastByte :=
  ⟨by decide, rfl, by decide, by decide, by decide, by decide, by decide, by decide, by decide⟩

theorem witness_StepKeepsInvariant :
    ∃ t, Inv { lastByte with pending := [rxOp 0x8F#8] } ∧ step { lastByte with pending := [rxOp 0x8F#8] } = .next t :=
  ⟨_, ⟨by decide, rfl, by decide, by decide, by decide, by decide, by decide, by decide, by decide⟩, rfl⟩

theorem witness_ResetEstablishesInvariants :
    { Config.reference with nPix := 1 }.wf ∧ { Config.reference with nPix := 256 }.wf := by
  decide

theorem witness_StepKeepsRecordChecksums :
    ∃ t, RecordInv { lastByte with pending := [rxOp 0x8F#8] } ∧
      step { lastByte with pending := [rxOp 0x8F#8] } = .next t :=
  ⟨_, ⟨by decide, .inr rfl, .inr ⟨rfl, rfl⟩⟩, rfl⟩

theorem witness_NoOperationChangesParameters : ∃ t, exec .clk bursting = .next t ∧ Instr.clk ≠ .reset :=
  ⟨_, rfl, by decide⟩

theorem witness_OnlyFreshMailboxReadHasSideEffect :
    ((0x0008#16).extractLsb' 12 4 = 0b0000#4 ∧ State.reset.fresh = false) ∧
    ((0x0010#16).extractLsb' 12 4 = 0b0000#4 ∧ 0x0010#16 ≠ 0x0008#16) := by
  decide

theorem witness_MisalignedAccessIsIgnored :
    ((0x0FFF#16).extractLsb' 12 4 = 0b0000#4 ∧ (0x0FFF#16).extractLsb' 0 2 ≠ 0b00#2) ∧
    ((0x4002#16).extractLsb' 12 4 = 0b0100#4 ∧ (0x4002#16).extractLsb' 0 2 ≠ 0b00#2) := by
  decide

theorem witness_ReservedOffsetIsIgnored :
    (∀ d ∈ [0x000C#16, 0x0090#16, 0x03FC#16, 0x0800#16, 0x0FFC#16], d.extractLsb' 0 2 = 0b00#2 ∧
      d.extractLsb' 12 4 = 0b0000#4 ∧ ((d.extractLsb' 0 12).toNat = 0x00C ∨
        (0x090 ≤ (d.extractLsb' 0 12).toNat ∧ (d.extractLsb' 0 12).toNat ≤ 0x3FC) ∨
        0x800 ≤ (d.extractLsb' 0 12).toNat)) ∧
    (0x4FFC#16).extractLsb' 12 4 = 0b0100#4 := by
  refine ⟨fun d hd => ?_, by decide⟩
  fin_cases hd <;> decide

theorem witness_PendingBitsHaveOneSourceEach :
    (∃ t, exec (.rx 0x8F#8) lastByte = .next t ∧ t.irqPend.getLsbD 0 = true ∧ lastByte.irqPend.getLsbD 0 = false) ∧
    (∃ t, exec .clk { bursting with lt := 75 } = .next t ∧ t.irqPend.getLsbD 1 = true ∧
      bursting.irqPend.getLsbD 1 = false) ∧
    (∃ t, exec (.wrArbStep 0) { State.reset with scnt := 29 } = .next t ∧ t.irqPend.getLsbD 2 = true ∧
      State.reset.irqPend.getLsbD 2 = false) ∧
    (∃ t, exec (.wrIrqPend 4) { State.reset with irqPend := 5 } = .next t ∧
      (5#3).getLsbD 2 = true ∧ t.irqPend.getLsbD 2 = false) :=
  ⟨⟨_, rfl, by decide⟩, ⟨_, rfl, by decide⟩, ⟨_, rfl, by decide⟩, ⟨_, rfl, by decide⟩⟩

theorem witness_RxAwaitingFirstSync : State.reset.dstate = .awaitSync1 ∧ 0x43#8 ≠ 0x42#8 := by decide

theorem witness_RxAwaitingSecondSync :
    (after (.rx 0x42#8) State.reset).dstate = .awaitSync2 ∧ 0x42#8 ≠ 0x4D#8 := by
  decide

theorem witness_RxCollectingAppends :
    { lastByte with dcnt := 2 }.dstate = .collecting ∧ (2 : Fin 32).val < 31 ∧ (30 : Fin 32).val < 31 := by
  decide

theorem witness_LastByteOfValidFramePublishes : lastByte.dstate = .collecting ∧ lastByte.dcnt = 31 ∧
    (∑ j : Fin 30, lastByte.dbuf[j.val].toNat) % 65536 = 256 * lastByte.dbuf[30].toNat + (0x8F#8).toNat := by
  decide

theorem witness_LastByteOfBadFrameDiscards : lastByte.dstate = .collecting ∧ lastByte.dcnt = 31 ∧
    (∑ j : Fin 30, lastByte.dbuf[j.val].toNat) % 65536 ≠ 256 * lastByte.dbuf[30].toNat + (0x90#8).toNat := by
  decide

theorem witness_MailboxReadTakesFreshRecord :
    { State.reset with fresh := true }.fresh = true ∧ State.reset.fresh = false ∧ Inv State.reset :=
  ⟨rfl, rfl, reset_inv⟩

theorem witness_DecoderAndStalenessStatusReads :
    State.reset.dstate = .awaitSync1 ∧ (after (.rx 0x42#8) State.reset).dstate = .awaitSync2 ∧
    lastByte.dstate = .collecting := by
  decide

/-- The frame of sync bytes and zeros. -/
def zeroFrame : Vector Byte 32 := lastByte.dbuf.set 31 0x8F#8

theorem witness_ValidFrameIsDelivered : State.reset.dstate = .awaitSync1 ∧ zeroFrame[0] = 0x42#8 ∧
    zeroFrame[1] = 0x4D#8 ∧
    ∑ j : Fin 30, zeroFrame[j.val].toNat = 256 * zeroFrame[30].toNat + zeroFrame[31].toNat := by
  decide

theorem witness_StreamWithoutSyncPairPublishesNothing : State.reset.dstate = .awaitSync1 ∧
    ∀ n, [0x4D#8, 0x42#8, 0x42#8][n]? = some 0x42#8 → [0x4D#8, 0x42#8, 0x42#8][n + 1]? ≠ some 0x4D#8 := by
  refine ⟨rfl, fun n => ?_⟩
  match n with
  | 0 => decide
  | 1 => decide
  | 2 => decide
  | n + 3 => simp

theorem witness_DecoderStateChangesOnlyOnRx :
    (∃ t, exec .tick State.reset = .next t ∧ Instr.tick ≠ .reset ∧ ∀ d, Instr.tick ≠ .rx d) ∧
    (∃ t, exec .rdMbStat { State.reset with fresh := true, mb := Vector.replicate 15 1 } = .next t ∧
      Instr.rdMbStat ≠ .reset ∧ t.fresh ≠ true ∧ t.snap ≠ State.reset.snap) ∧
    (∃ t, exec (.wrArbStep 0) { State.reset with rss := true } = .next t ∧ Instr.wrArbStep 0 ≠ .reset ∧ t.rss ≠ true) :=
  ⟨⟨_, rfl, by decide, fun _ h => by cases h⟩, ⟨_, rfl, by decide, by decide, by decide⟩, ⟨_, rfl, by decide, by decide⟩⟩

theorem witness_StepUpdatesStaleness : State.reset.cfg.staleCmp = .ge ∧ State.reset.rss = false ∧
    { State.reset with rss := true }.rss = true ∧
    (∃ t, exec (.wrArbStep 0) { State.reset with scnt := 29 } = .next t ∧ State.reset.stale = false ∧ t.stale = true) ∧
    (∃ t, exec (.wrArbStep 0) { State.reset with scnt := 28 } = .next t ∧ t.stale = false) :=
  ⟨rfl, rfl, rfl, ⟨_, rfl, by decide⟩, ⟨_, rfl, by decide⟩⟩

/-- One ARB_IN for each clause, from reset: staleness is the clause of scnt 29. -/
theorem witness_StepArbitratesByPriority : State.reset.cfg.atDefaultReadings ∧
    (after (.wrArbStep 0) { State.reset with scnt := 29, arbIn := 0x1F#32 }).stale = true ∧
    (after (.wrArbStep 0) State.reset).stale = false ∧
    (0x200#32).getLsbD 9 = true ∧ (0x100#32).getLsbD 8 = true ∧ (0x01F#32).getLsbD 0 = true ∧
    ((0x01E#32).getLsbD 0 = false ∧ (0x01E#32).getLsbD 1 = true) ∧
    ((0x01C#32).getLsbD 1 = false ∧ (0x01C#32).getLsbD 2 = true) ∧
    ((0x018#32).getLsbD 2 = false ∧ (0x018#32).getLsbD 3 = true) ∧
    ((0x010#32).getLsbD 3 = false ∧ (0x010#32).getLsbD 4 = true) ∧ (0x000#32).getLsbD 4 = false := by
  decide

theorem witness_StepSoundsWithinBudget : State.reset.cfg.soundCmpPre = true ∧ (0x004#32).getLsbD 2 = true ∧
    (0x004#32).getLsbD 9 = false ∧ (after (.wrArbStep 0) { State.reset with arbIn := 4 }).stale = false ∧
    (0x008#32).getLsbD 3 = true ∧ (0x008#32).getLsbD 8 = false ∧ (0x010#32).getLsbD 4 = true := by
  decide

theorem witness_StepReportsLowestFaultCode : (0x700#32).getLsbD 8 = true ∧
    ((0x600#32).getLsbD 8 = false ∧ (0x600#32).getLsbD 9 = true) ∧
    ((0x400#32).getLsbD 8 = false ∧ (0x400#32).getLsbD 9 = false ∧ (0x400#32).getLsbD 10 = true) ∧
    (after (.wrArbStep 0) { State.reset with arbIn := 0x400 }).stale = false ∧ (0x000#32).getLsbD 10 = false := by
  decide

/-- ARB_CFG 4 is EMERG, 8 EDIT, 2 LOFF; each alarm input alone gives its own cause. -/
theorem witness_StepSelectsLight : State.reset.cfg.wf ∧ (0xC#32).getLsbD 2 = true ∧
    ((0x8#32).getLsbD 2 = false ∧ (0x8#32).getLsbD 3 = true) ∧
    ((0x2#32).getLsbD 2 = false ∧ (0x2#32).getLsbD 3 = false ∧ (0x2#32).getLsbD 1 = true) ∧
    (∀ p ∈ [(0x000#32, 0), (0x100, 1), (0x001, 2), (0x002, 3), (0x004, 4), (0x008, 5), (0x010, 6)],
      ((after (.wrArbStep 0) { State.reset with arbIn := p.1 }).arbStat.extractLsb' 4 3).toNat = p.2) := by
  decide

theorem witness_AlternativeReadingsOfStep :
    { Config.reference with staleCmp := .gt }.staleCmp = .gt ∧
    ({ Config.reference with sfaultEscalates := true }.sfaultEscalates = true ∧ (0x400#32).getLsbD 10 = true) ∧
    { Config.reference with soundCmpPre := false }.soundCmpPre = false ∧
    ((0x01C#32).getLsbD 9 = false ∧ (after (.wrArbStep 0) { State.reset with arbIn := 0x01C }).stale = false ∧
      (0x01C#32).getLsbD 8 = false ∧ (0x01C#32).getLsbD 10 = false ∧ (0x01C#32).getLsbD 0 = false ∧
      (0x01C#32).getLsbD 1 = false) := by
  decide

/-- Two states that differ in everything the statement leaves free. -/
theorem witness_StepOutputsDependOnlyOnSampledInputs :
    let s₁ := State.reset
    let s₂ := { bursting with cfg := State.reset.cfg, irqPend := 7, arbStat := 0x321 }
    s₁.cfg = s₂.cfg ∧ s₁.arbIn = s₂.arbIn ∧ s₁.arbCfg = s₂.arbCfg ∧ s₁.tick = s₂.tick ∧
    s₁.arbStat.extractLsb' 16 8 = s₂.arbStat.extractLsb' 16 8 ∧ s₁.scnt = s₂.scnt ∧ s₁.rss = s₂.rss := by
  decide

theorem witness_ExactlyFiftyStepsSound :
    let s := { State.reset with arbIn := 1 }
    s.cfg.soundCmpPre = true ∧ s.arbIn.getLsbD 0 = true ∧ s.arbCfg.getLsbD 0 = false ∧
    s.arbStat.extractLsb' 16 8 = 0#8 := by
  decide

theorem witness_StalenessRisesAtThirtiethStep : State.reset.cfg.staleCmp = .ge ∧ State.reset.scnt = 0 ∧
    State.reset.rss = false ∧ State.reset.stale = false := by
  decide

theorem witness_ArbitratorStateHasFewWriters : ∃ t, exec (.wrIrqEn 7) State.reset = .next t ∧
    Instr.wrIrqEn 7 ≠ .reset ∧ Instr.wrIrqEn 7 ≠ .tick ∧ ∀ v, Instr.wrIrqEn 7 ≠ .wrArbStep v ∧
      Instr.wrIrqEn 7 ≠ .wrArbIn v ∧ Instr.wrIrqEn 7 ≠ .wrArbCfg v :=
  ⟨_, rfl, by decide, by decide, fun _ => ⟨by simp, by simp, by simp⟩⟩

theorem witness_LedControlWriteRequestsBurst : (0x2#32).getLsbD 0 = false ∧ (0x3#32).getLsbD 0 = true ∧
    bursting.lbusy = true ∧ onePixel.lbusy = false ∧
    ¬(1 ≤ ({ onePixel with ledT0h := 0 }).ledT0h.toNat) ∧
    (1 ≤ onePixel.ledT0h.toNat ∧ onePixel.ledT0h.toNat < onePixel.ledT1h.toNat ∧
      onePixel.ledT1h.toNat < onePixel.ledTbit.toNat ∧ 1 ≤ onePixel.ledTrst.toNat) := by
  decide

theorem witness_AcceptedRequestLatchesBits :
    (∃ t, Memory.wf onePixel.cfg.nPix onePixel.pix ∧ onePixel.lbusy = false ∧ (0x1#32).getLsbD 0 = true ∧
      exec (.wrLedCtrl 1) onePixel = .next t ∧ t.lbusy = true ∧ 0 < onePixel.cfg.nPix ∧
      (0x1#32).getLsbD 1 = false ∧ onePixel.pix[0]? = some 0x800001#24) ∧
    (∃ t, exec (.wrLedCtrl 3) onePixel = .next t ∧ t.lbusy = true ∧ (0x3#32).getLsbD 1 = true ∧
      onePixel.light.extractLsb' 0 2 = 0#2) :=
  ⟨⟨_, rfl, rfl, by decide, rfl, by decide⟩, ⟨_, rfl, by decide⟩⟩

theorem witness_ClkAdvancesBurst : onePixel.lbusy = false ∧ bursting.lbusy = true ∧
    ((bursting.lt.toNat + 1) % 2 ^ 32 ≠ 24 * bursting.cfg.nPix * bursting.ltbit.toNat + bursting.ltrst.toNat) ∧
    ((75#32).toNat + 1) % 2 ^ 32 = 24 * bursting.cfg.nPix * bursting.ltbit.toNat + bursting.ltrst.toNat := by
  decide

theorem witness_AcceptedBurstLastsTotalClks : ∃ t, onePixel.cfg.wf ∧ onePixel.lbusy = false ∧
    (0x1#32).getLsbD 0 = true ∧ exec (.wrLedCtrl 1) onePixel = .next t ∧ t.lbusy = true ∧
    75 < 24 * onePixel.cfg.nPix * onePixel.ledTbit.toNat + onePixel.ledTrst.toNat ∧
    76 = 24 * onePixel.cfg.nPix * onePixel.ledTbit.toNat + onePixel.ledTrst.toNat :=
  ⟨_, by decide, rfl, by decide, rfl, by decide⟩

theorem witness_BurstWaveformSendsPixels : ∃ t, Inv onePixel ∧ onePixel.lbusy = false ∧ (0x1#32).getLsbD 0 = true ∧
    (0x1#32).getLsbD 1 = false ∧ exec (.wrLedCtrl 1) onePixel = .next t ∧ t.lbusy = true ∧ 0 < onePixel.cfg.nPix ∧
    onePixel.pix[0]? = some 0x800001#24 ∧ 2 < onePixel.ledTbit.toNat ∧ 3 < onePixel.ledTrst.toNat :=
  ⟨_, onePixel_inv, rfl, by decide, by decide, rfl, by decide⟩

/-- The same with the pixels rendered from LIGHT, which is solid green. -/
theorem witness_BurstWaveformSendsPixels_rendered :
    let s := { onePixel with light := 0x11, lightRgb := 0x00FF00 }
    ∃ t, Inv s ∧ s.lbusy = false ∧ (0x3#32).getLsbD 0 = true ∧ (0x3#32).getLsbD 1 = true ∧
      exec (.wrLedCtrl 3) s = .next t ∧ t.lbusy = true ∧ 0 < s.cfg.nPix ∧ s.light.extractLsb' 0 2 = 1#2 ∧
      s.lightRgb.extractLsb' 0 24 = 0x00FF00#24 ∧ 2 < s.ledTbit.toNat :=
  ⟨_, { onePixel_inv with lights := by decide }, rfl, by decide, by decide, rfl, by decide⟩

theorem witness_OnlyClkAndResetTouchBurst : ∃ t, bursting.lbusy = true ∧ exec (.wrLedCtrl 3) bursting = .next t ∧
    Instr.wrLedCtrl 3 ≠ .clk ∧ Instr.wrLedCtrl 3 ≠ .reset :=
  ⟨_, by decide, rfl, by decide, by decide⟩

theorem witness_TimingWritesDroppedWhileBusy : onePixel.lbusy = false ∧ bursting.lbusy = true := by decide

theorem witness_LedStatusWriteClearsOnes : (0xE#32).getLsbD 1 = true ∧ (0xE#32).getLsbD 2 = true ∧
    (0xE#32).getLsbD 3 = true ∧ (0x1#32).getLsbD 1 = false ∧ (0x1#32).getLsbD 2 = false ∧ (0x1#32).getLsbD 3 = false := by
  decide

theorem witness_PixelWriteStoresOneWord : Memory.wf bursting.cfg.nPix bursting.pix ∧
    bursting.cfg.nPix ≤ (1#8).toNat ∧ bursting.cfg.nPix ≤ (255#8).toNat ∧ (0#8).toNat < bursting.cfg.nPix ∧
    bursting.lbusy = true ∧ onePixel.lbusy = false := by
  decide

theorem witness_PixelReadReturnsWord : Memory.wf onePixel.cfg.nPix onePixel.pix ∧
    onePixel.cfg.nPix ≤ (1#8).toNat ∧ onePixel.cfg.pixReadSignals = false ∧
    { onePixel.cfg with pixReadSignals := true }.pixReadSignals = true ∧ (0#8).toNat < onePixel.cfg.nPix := by
  decide

theorem witness_EventsOfCycleSurviveItsAcknowledge : lastByte.pending = [] ∧ lastByte.dstate = .collecting ∧
    lastByte.dcnt = 31 ∧
    (∑ j : Fin 30, lastByte.dbuf[j.val].toNat) % 65536 = 256 * lastByte.dbuf[30].toNat + (0x8F#8).toNat ∧
    bursting.pending = [] ∧ bursting.lbusy = true ∧
    ((75#32).toNat + 1) % 2 ^ 32 = 24 * bursting.cfg.nPix * bursting.ltbit.toNat + bursting.ltrst.toNat := by
  decide

theorem witness_ResetCycleIgnoresOtherPorts : bursting.pending = [] ∧
    ({ rstN := false, bus := some { write := true, addr := 0x050#12, wdata := 1 }, rx := some 0x42#8, tick := true } :
      PortInputs).rstN = false ∧
    (∀ v, (some { write := true, addr := 0x050#12, wdata := 1 } : Option BusAccess) ≠
      some { write := false, addr := 0x000#12, wdata := v }) ∧
    (∃ v, (some { write := false, addr := 0x000#12, wdata := 7 } : Option BusAccess) =
      some { write := false, addr := 0x000#12, wdata := v }) := by
  refine ⟨by decide, by decide, fun v => by simp, 7, rfl⟩

/-- R162, R90: the descriptor 0x8001, presented first after reset, runs TICK. -/
theorem test_step_runs_the_presented_word :
    (match step (State.reset.withFetchWord 16 0x8001) with
      | .next t => t.tick == 1 && t.pending.isEmpty
      | .fault _ => false
      | .refused _ => false) = true := by
  decide

end Sys2Proof.Tests
end

section
/-! SUPPORT. The fields no operation of the block touches (R7, R274; log entries 1, 6, 21): one lemma for each shared
operation, then one for all operations. -/

namespace Sys2Proof.Machine

/-- t has the parameters, the operations still presented and the count of drawn values of s. -/
def State.SameModelFields (s t : State) : Prop := t.cfg = s.cfg ∧ t.pending = s.pending ∧ t.draws = s.draws

section
variable (s : State)

theorem State.takeRecord_sameModelFields : s.SameModelFields s.takeRecord := by
  rcases s.takeRecord_cases with ⟨_, h⟩ | ⟨_, h⟩ <;> rw [h] <;> exact ⟨rfl, rfl, rfl⟩

theorem State.publish_sameModelFields : s.SameModelFields s.publish := by
  rw [State.publish_eq]
  exact ⟨rfl, rfl, rfl⟩

theorem State.rxByte_sameModelFields (d : Byte) : s.SameModelFields (s.rxByte d) := by
  rcases s.rxByte_cases d with ⟨_, _, h⟩ | ⟨_, _, h⟩ | ⟨_, _, h⟩ | ⟨_, _, h⟩ | ⟨_, _, h⟩ | ⟨_, _, _, h⟩ |
    ⟨_, _, _, h⟩ <;> rw [h]
  · exact ⟨rfl, rfl, rfl⟩
  · exact ⟨rfl, rfl, rfl⟩
  · exact ⟨rfl, rfl, rfl⟩
  · exact ⟨rfl, rfl, rfl⟩
  · exact ⟨rfl, rfl, rfl⟩
  · exact (s.bufferByte 31 d).publish_sameModelFields
  · exact ⟨rfl, rfl, rfl⟩

theorem State.arbStep_sameModelFields : s.SameModelFields s.arbStep :=
  ⟨s.arbStep_cfg, s.arbStep_pending, s.arbStep_draws⟩

theorem State.refreshRequest_sameModelFields : s.SameModelFields s.refreshRequest := by
  rcases s.refreshRequest_cases with ⟨_, h⟩ | ⟨_, _, h⟩ | ⟨_, _, h⟩ <;> rw [h] <;> exact ⟨rfl, rfl, rfl⟩

theorem State.writeLedCtrl_sameModelFields (v : Word) : s.SameModelFields (s.writeLedCtrl v) := by
  rcases s.writeLedCtrl_cases v with ⟨_, h⟩ | ⟨_, h⟩ <;> rw [h]
  · exact ⟨rfl, rfl, rfl⟩
  · exact ({ s with pixsrc := v.getLsbD 1 } : State).refreshRequest_sameModelFields

theorem State.clkOnce_sameModelFields : s.SameModelFields s.clkOnce := by
  rcases s.clkOnce_cases with ⟨_, h⟩ | ⟨_, _, h⟩ | ⟨_, _, h⟩ <;> rw [h] <;> exact ⟨rfl, rfl, rfl⟩

theorem State.writePixelSlot_sameModelFields (i : BitVec 8) (v : Word) :
    s.SameModelFields (s.writePixelSlot i v) := by
  rcases s.writePixelSlot_cases i v with ⟨_, h⟩ | ⟨_, _, h⟩ | ⟨_, _, h⟩ <;> rw [h] <;> exact ⟨rfl, rfl, rfl⟩

/-- R274: RESET redraws the pixel RAM and keeps the parameters and the operations still presented (log entry 21). -/
theorem State.resetBlock_cfg_pending : s.resetBlock.cfg = s.cfg ∧ s.resetBlock.pending = s.pending := ⟨rfl, rfl⟩

end

/-- R204-R210: a timing write is dropped while BUSY; its store is t. -/
theorem State.SameModelFields.dropWrite_or {s t : State} (h : s.SameModelFields t) :
    s.SameModelFields (if s.lbusy then s.dropWrite else t) := by
  cases s.lbusy
  · exact h
  · exact ⟨rfl, rfl, rfl⟩

theorem exec_sameModelFields {i : Instr} {s t : State} (h : exec i s = .next t) (hi : i ≠ .reset) :
    s.SameModelFields t := by
  rcases exec_next_cases h with ⟨_, _, rfl⟩ | ⟨_, rfl⟩ | ⟨_, rfl⟩ | ⟨d, _, rfl⟩ | ⟨_, _, rfl⟩ | ⟨_, _, rfl⟩ |
    ⟨_, _, rfl⟩ | ⟨_, rfl⟩ | ⟨v, _, rfl⟩ | ⟨_, _, rfl⟩ | ⟨_, _, rfl⟩ | ⟨_, _, rfl⟩ | ⟨_, _, rfl⟩ | ⟨_, _, rfl⟩ |
    ⟨n, v, _, rfl⟩ | ⟨_, _, rfl⟩ | ⟨_, _, rfl⟩ | ⟨_, rfl⟩ | ⟨hr, _⟩
  · exact ⟨rfl, rfl, rfl⟩
  · exact ⟨rfl, rfl, rfl⟩
  · exact (s.returns (mbStatWord s.ovr s.fresh)).takeRecord_sameModelFields
  · exact s.rxByte_sameModelFields d
  · exact ⟨rfl, rfl, rfl⟩
  · exact ⟨rfl, rfl, rfl⟩
  · exact s.arbStep_sameModelFields
  · exact ⟨rfl, rfl, rfl⟩
  · exact s.writeLedCtrl_sameModelFields v
  · exact ⟨rfl, rfl, rfl⟩
  · exact .dropWrite_or ⟨rfl, rfl, rfl⟩
  · exact .dropWrite_or ⟨rfl, rfl, rfl⟩
  · exact .dropWrite_or ⟨rfl, rfl, rfl⟩
  · exact .dropWrite_or ⟨rfl, rfl, rfl⟩
  · exact s.writePixelSlot_sameModelFields n v
  · exact ⟨rfl, rfl, rfl⟩
  · exact ⟨rfl, rfl, rfl⟩
  · exact s.clkOnce_sameModelFields
  · exact absurd hr hi

/-- Settles O11: every operation but RESET keeps all three fields, and RESET keeps the first two. -/
theorem noOperationChangesParameters : Obligations.NoOperationChangesParameters := by
  unfold Obligations.NoOperationChangesParameters
  intro i s t h
  by_cases hi : i = .reset
  · subst hi
    cases h
    obtain ⟨hcfg, hpending⟩ := s.resetBlock_cfg_pending
    exact ⟨hcfg, hpending, fun hne => absurd rfl hne⟩
  · obtain ⟨hcfg, hpending, hdraws⟩ := exec_sameModelFields h hi
    exact ⟨hcfg, hpending, fun _ => hdraws⟩

end Sys2Proof.Machine
end

section
/-! SUPPORT. The fields of ARB_STAT after a STEP, and what arbitration answers under each reading of R8
(D8, D10, D12, D14; log entry 4). -/

namespace Sys2Proof.Machine

/-! ### ARB_STAT after a STEP, field by field -/

section
variable (s : State)

theorem State.arbStep_status_code : s.arbStep.arbStat.extractLsb' 0 2 = s.stepStatus.1.code := by
  rw [State.arbStep_arbStat]
  exact statStatus_arbStatWord ..

theorem State.arbStep_cause_code : s.arbStep.arbStat.extractLsb' 4 3 = s.stepStatus.2.code := by
  rw [State.arbStep_arbStat]
  exact statCause_arbStatWord ..

theorem State.arbStep_sound_bit : s.arbStep.arbStat.getLsbD 8 =
    soundFlag s.cfg (alarmAny s.arbIn s.stepAlarms) (statDur s.arbStat) (cfgSilent s.arbCfg) := by
  rw [State.arbStep_arbStat]
  exact statSound_arbStatWord ..

theorem State.arbStep_alarmAny_bit : s.arbStep.arbStat.getLsbD 9 = alarmAny s.arbIn s.stepAlarms := by
  rw [State.arbStep_arbStat]
  exact statAlarmAny_arbStatWord ..

theorem State.arbStep_dur : s.arbStep.arbStat.extractLsb' 16 8 =
    nextDur (alarmAny s.arbIn s.stepAlarms) (statDur s.arbStat) := by
  rw [State.arbStep_arbStat]
  exact statDur_arbStatWord ..

/-- R147: the faults a STEP sees, by the STALE flag it leaves. -/
theorem State.stepFaults_eq : s.stepFaults = effFaults s.arbIn s.arbStep.stale := by
  rw [State.arbStep_stale]

end

/-! ### The readings of R8 -/

/-- D8: STALE_CMP at `>`. -/
theorem staleFlag_gt_iff (scnt : Byte) : staleFlag .gt scnt = true ↔ 30 < scnt.toNat := decide_eq_true_iff

/-- D14: with SOUND_CMP_PRE = false, SOUND compares the counter after its increment. -/
theorem soundFlag_post_iff {c : Config} (h : c.soundCmpPre = false) (any : Bool) (dur0 : Byte) (silent : Bool) :
    soundFlag c any dur0 silent = true ↔ any = true ∧ (nextDur any dur0).toNat < 50 ∧ silent = false := by
  simp [soundFlag, h, and_assoc]

/-- R149, D10: a fault, a storage fault among them when SFAULT_ESCALATES is set, is first. -/
theorem arbitrate_of_fault {c : Config} {inp : Word} {f : Faults} {e : EnvAlarms}
    (h : (f.pf || f.tf || (c.sfaultEscalates && f.sf)) = true) : arbitrate c inp f e = (.envWarning, .fault) :=
  if_pos h

/-- R147: a stale record counts as a PM sensor fault. -/
theorem effFaults_pf_eq_false_iff {inp : Word} {stale : Bool} :
    (effFaults inp stale).pf = false ↔ inp.getLsbD 9 = false ∧ stale = false :=
  Bool.or_eq_false_iff

/-- R148: with neither sensor fault, no alarm is masked. -/
theorem maskAlarms_of_no_fault {inp : Word} {f : Faults} (hp : f.pf = false) (ht : f.tf = false) :
    maskAlarms inp f = ⟨arbPm inp, arbTemp inp, arbHumi inp⟩ := by
  simp [maskAlarms, hp, ht]

/-- The environmental alarms in the order ENV_ORDER gives, each with whether it holds and its CAUSE code. -/
def rankedAlarms (o : EnvOrder) (e : EnvAlarms) : List (Bool × Nat) :=
  [(envRanking o).1, (envRanking o).2.1, (envRanking o).2.2].map fun a => (envHolds e a, (envCause a).code.toNat)

/-- R149, D12: with no fault, no fire and no intrusion, CAUSE is that of the first alarm of the ranking that holds. -/
theorem arbitrate_cause_of_env {c : Config} {inp : Word} {f : Faults} {e : EnvAlarms}
    (hf : (f.pf || f.tf || (c.sfaultEscalates && f.sf)) = false) (hfire : arbFire inp = false)
    (hintr : arbIntr inp = false) : (arbitrate c inp f e).2.code.toNat =
      (((rankedAlarms c.envOrder e).find? (·.1)).map (·.2)).getD 0 := by
  unfold arbitrate rankedAlarms
  obtain ⟨a, b, d⟩ := envRanking c.envOrder
  cases ha : envHolds e a with
  | true => simp [hf, hfire, hintr, ha]
  | false =>
    cases hb : envHolds e b with
    | true => simp [hf, hfire, hintr, ha, hb]
    | false => cases hd : envHolds e d <;> simp [hf, hfire, hintr, ha, hb, hd, Cause.code]

/-! ### A STEP under the readings of R8 -/

section
variable {s : State}

theorem State.arbStep_stale_iff_of_gt (h : s.cfg.staleCmp = .gt) :
    s.arbStep.stale = true ↔ 30 < s.arbStep.scnt.toNat := by
  rw [State.arbStep_stale, State.arbStep_scnt, h]
  exact staleFlag_gt_iff _

theorem State.stepStatus_of_sfault (h : s.cfg.sfaultEscalates = true) (hs : s.arbIn.getLsbD 10 = true) :
    s.stepStatus = (.envWarning, .fault) := by
  have hsf : s.stepFaults.sf = true := hs
  exact arbitrate_of_fault (by rw [h, hsf, Bool.and_self, Bool.or_true])

theorem State.arbStep_sound_iff_of_post (h : s.cfg.soundCmpPre = false) : s.arbStep.arbStat.getLsbD 8 = true ↔
    s.arbStep.arbStat.getLsbD 9 = true ∧ (s.arbStep.arbStat.extractLsb' 16 8).toNat < 50 ∧
      s.arbCfg.getLsbD 0 = false := by
  rw [State.arbStep_sound_bit, State.arbStep_alarmAny_bit, State.arbStep_dur]
  exact soundFlag_post_iff h ..

theorem State.arbStep_cause_of_env (hp : s.stepFaults.pf = false) (ht : s.stepFaults.tf = false)
    (hs : s.stepFaults.sf = false) (hfire : s.arbIn.getLsbD 0 = false) (hintr : s.arbIn.getLsbD 1 = false) :
    (s.arbStep.arbStat.extractLsb' 4 3).toNat =
      (((rankedAlarms s.cfg.envOrder ⟨arbPm s.arbIn, arbTemp s.arbIn, arbHumi s.arbIn⟩).find? (·.1)).map
        (·.2)).getD 0 := by
  rw [State.arbStep_cause_code, ← maskAlarms_of_no_fault hp ht]
  exact arbitrate_cause_of_env (by rw [hp, ht, hs, Bool.and_false]; rfl) hfire hintr

end

/-- Settles O38: one clause for each parameter, by the lemma on its reading. -/
theorem alternativeReadingsOfStep : Obligations.AlternativeReadingsOfStep := by
  unfold Obligations.AlternativeReadingsOfStep
  intro s v
  refine ⟨s.arbStep, rfl, ?_⟩
  intro status cause pf tf sf pm temp humi ranked
  refine ⟨State.arbStep_stale_iff_of_gt, fun he hs => ?_, State.arbStep_sound_iff_of_post,
    fun hp ht hs hfire hintr => ?_⟩
  · have hstep := State.stepStatus_of_sfault he hs
    simp only [status, cause, State.arbStep_status_code, State.arbStep_cause_code, hstep]
    decide
  · have hpf : s.stepFaults.pf = false := by
      rw [State.stepFaults_eq, effFaults_pf_eq_false_iff]
      simpa only [pf, not_or, Bool.not_eq_true] using hp
    have hranked : ranked = rankedAlarms s.cfg.envOrder ⟨arbPm s.arbIn, arbTemp s.arbIn, arbHumi s.arbIn⟩ := by
      simp only [ranked]
      cases s.cfg.envOrder <;> rfl
    rw [hranked]
    exact State.arbStep_cause_of_env hpf (Bool.eq_false_of_not_eq_true ht) (Bool.eq_false_of_not_eq_true hs) hfire hintr

end Sys2Proof.Machine
end

section
/-! SUPPORT. The step as the statement O6 puts it: the shape of a step with the start of an operation written out. -/

namespace Sys2Proof.Machine

/-- Settles O6, by the two shapes of a step; presenting a word puts its operation first. -/
theorem stepRunsPresentedOperation : Obligations.StepRunsPresentedOperation := by
  unfold Obligations.StepRunsPresentedOperation
  exact ⟨fun _ _ _ h => step_presented h, fun _ h => step_idle h, fun _ _ _ => step_presented rfl⟩

end Sys2Proof.Machine
end

section
/-! SUPPORT. The state after reset (R52, R271, R274): its elements, its output ports, and the invariants it meets. -/

namespace Sys2Proof.Machine

/-! ### The elements after a RESET -/

section
variable (s : State)

theorem State.resetBlock_dbuf (j : Fin 32) : s.resetBlock.dbuf[j] = 0 := Vector.getElem_replicate j.isLt

/-- R48, R28: mailbox and snapshot are zeros. -/
theorem State.resetBlock_records (k : Fin 15) : s.resetBlock.mb[k] = 0 ∧ s.resetBlock.snap[k] = 0 :=
  ⟨Vector.getElem_replicate k.isLt, Vector.getElem_replicate k.isLt⟩

/-- R53, R254: the output ports are low. -/
theorem State.resetBlock_ports :
    s.resetBlock.ledDout = false ∧ s.resetBlock.buzzO = false ∧ s.resetBlock.irqO = false := by
  have hbuzz : statSound 0 = false := by decide
  have hirq : irqLine 0 0 = false := by decide
  exact ⟨rfl, hbuzz, hirq⟩

/-- R271, R274: the pixel RAM is drawn afresh, word by word. -/
theorem State.resetBlock_pix : s.resetBlock.pix = drawPixels s.draws s.cfg.nPix := rfl

end

/-- Settles O58, element by element; the pixel words are the ones newly drawn. -/
theorem resetLoadsEveryResetValue : Obligations.ResetLoadsEveryResetValue := by
  unfold Obligations.ResetLoadsEveryResetValue
  intro s
  obtain ⟨hled, hbuzz, hirq⟩ := s.resetBlock_ports
  refine ⟨rfl, s.resetBlock, rfl, rfl, rfl, s.resetBlock_dbuf, s.resetBlock_records, rfl, rfl, rfl, rfl, rfl, rfl, rfl,
    rfl, rfl, rfl, rfl, rfl, rfl, rfl, rfl, rfl, rfl, rfl, rfl, rfl, rfl, rfl, rfl, rfl, rfl, rfl, rfl, rfl, rfl, hled,
    hbuzz, hirq, rfl, ?_, rfl, fun i hi => ?_⟩
  · rw [State.resetBlock_pix, drawPixels_length]
  · rw [State.resetBlock_pix, drawPixels_getElem? hi]

/-! ### The invariants after a reset -/

/-- R52, R128: STALE is 0 for SCNT 0 under either comparison. -/
theorem staleFlag_zero (cmp : StaleCmp) : staleFlag cmp 0 = false := by
  cases cmp <;> decide

/-- R26: in AwaitSync1 nothing is asked of the buffer. -/
theorem DecoderInv.of_awaitSync1 {s : State} (hs : s.dstate = .awaitSync1) (hn : s.dcnt = 0) : DecoderInv s := by
  simp [DecoderInv, hs, hn]

/-- R33: no status, no alarm and an empty counter fit together. -/
theorem StatusInv.of_zero {s : State} (h : s.arbStat = 0) : StatusInv s := by
  rw [StatusInv, h]
  decide

/-- R34-R36: the light that is off fits every strip that has a pixel. -/
theorem LightInv.of_zero {s : State} (hlight : s.light = 0) (hrgb : s.lightRgb = 0) (hpos : s.lightPos = 0)
    (hn : 0 < s.cfg.nPix) : LightInv s := by
  have hidx : (lightPosIndex 0).toNat < s.cfg.nPix := hn
  rw [LightInv, hlight, hrgb, hpos]
  refine ⟨?_, ?_, ?_, ?_, ?_, ?_, ?_, hidx, fun _ => rfl⟩ <;> decide

theorem State.resetOf_inv {c : Config} (k : Nat) (hc : c.wf) : Inv (State.resetOf c k) where
  config := hc
  memory := drawPixels_length k c.nPix
  decoder := .of_awaitSync1 rfl rfl
  mailbox := fun h => h
  staleness := (staleFlag_zero c.staleCmp).symm
  inputs := ⟨BitVec.zero_and, BitVec.zero_and⟩
  status := .of_zero rfl
  lights := .of_zero rfl rfl rfl hc.1
  encoder := ⟨nofun, fun _ => rfl⟩

theorem State.resetOf_recordInv (c : Config) (k : Nat) : RecordInv (State.resetOf c k) where
  decoder := .of_awaitSync1 rfl rfl
  snapshot := .inr rfl
  mailbox := .inr ⟨rfl, rfl⟩

/-- Settles O9; the reference block has 8 pixels. -/
theorem resetEstablishesInvariants : Obligations.ResetEstablishesInvariants := by
  unfold Obligations.ResetEstablishesInvariants
  intro c k hc
  have href : Config.reference.wf := by decide
  exact ⟨State.resetOf_inv k hc, State.resetOf_recordInv c k, State.resetOf_inv 0 href⟩

end Sys2Proof.Machine
end

section
/-! SUPPORT. The invariant of the machine over a step. Each unit's part is kept by the operations that touch its
fields; every other part carries over as it stands, since the update leaves the fields it reads. -/

namespace Sys2Proof.Machine

/-! ### The arbitrator's part: a STEP establishes it -/

/-- R33, R149: the status and cause that arbitration gives fit each other in the committed word. -/
theorem arbStatWord_statusFitsCause (dur : Byte) (fcode : BitVec 2) (any sound : Bool) (c : Config) (inp : Word)
    (f : Faults) (e : EnvAlarms) :
    StatusFitsCause (arbStatWord dur fcode any sound (arbitrate c inp f e).2 (arbitrate c inp f e).1) := by
  rw [StatusFitsCause, statStatus_arbStatWord, statCause_arbStatWord, arbitrate_status]
  cases (arbitrate c inp f e).2 <;> decide

/-- R151: the counter stays within 50 and counts exactly while an alarm holds. -/
theorem nextDur_bounds (any : Bool) (dur0 : Byte) :
    (nextDur any dur0).toNat ≤ 50 ∧ (any = true ↔ 1 ≤ (nextDur any dur0).toNat) := by
  rw [nextDur_toNat]
  cases any <;> simp

/-- R151: SOUND needs an alarm. -/
theorem alarm_of_soundFlag {c : Config} {any silent : Bool} {dur0 : Byte} (h : soundFlag c any dur0 silent = true) :
    any = true := by
  simp only [soundFlag, Bool.and_eq_true] at h
  exact h.1.1

theorem State.arbStep_statusInv (s : State) : StatusInv s.arbStep := by
  have hne : ∀ c : Cause, c.code ≠ 7 := fun c => by cases c <;> decide
  obtain ⟨hmax, hany⟩ := nextDur_bounds (alarmAny s.arbIn s.stepAlarms) (statDur s.arbStat)
  rw [StatusInv, State.arbStep_arbStat, statCause_arbStatWord, statDur_arbStatWord, statAlarmAny_arbStatWord,
    statSound_arbStatWord]
  exact ⟨arbStatWord_reserved .., hne _, arbStatWord_statusFitsCause .., hmax, hany, alarm_of_soundFlag⟩

/-- R34, R165: the periods of the causes that flash. -/
theorem causePeriod_mem {cause : Cause} (h : cause ≠ .none) : causePeriod cause ∈ ([1, 2, 5, 10] : List Byte) := by
  cases cause with
  | none => exact absurd rfl h
  | _ => decide

/-- R36: the position of a moving light is a pixel of the strip. -/
theorem movingPos_lt {c : Config} (hc : c.wf) (t : Word) : (BitVec.ofNat 8 (t.toNat % c.nPix)).toNat < c.nPix := by
  obtain ⟨hmin, hmax⟩ := hc
  have hlt : t.toNat % c.nPix < c.nPix := Nat.mod_lt _ hmin
  rw [BitVec.toNat_ofNat, Nat.mod_eq_of_lt (by omega)]
  exact hlt

/-- R153: everything select_light can choose. -/
theorem selectLight_cases {c : Config} (hc : c.wf) (acfg : Word) (cause : Cause) (t : Word) :
    (∃ rgb, selectLight c acfg cause t = ⟨.off, rgb, 0, 0⟩) ∨
    (∃ rgb, selectLight c acfg cause t = ⟨.solid, rgb, 0, 0⟩) ∨
    (∃ rgb period, period ∈ ([1, 2, 5, 10] : List Byte) ∧ selectLight c acfg cause t = ⟨.flash, rgb, period, 0⟩) ∨
    (∃ rgb pos, pos.toNat < c.nPix ∧ selectLight c acfg cause t = ⟨.moving, rgb, 0, pos⟩) := by
  unfold selectLight
  split_ifs with _ _ hnone
  · exact .inr (.inl ⟨_, rfl⟩)
  · exact .inr (.inr (.inr ⟨_, _, movingPos_lt hc t, rfl⟩))
  · exact .inl ⟨_, rfl⟩
  · exact .inr (.inl ⟨_, rfl⟩)
  · exact .inr (.inr (.inl ⟨_, _, causePeriod_mem hnone, rfl⟩))

theorem State.arbStep_lightInv {s : State} (hc : s.cfg.wf) : LightInv s.arbStep := by
  have hn : 0 < s.cfg.nPix := hc.1
  rw [LightInv, State.arbStep_light, State.arbStep_lightRgb, State.arbStep_lightPos, lightKind_lightWord,
    lightPeriod_lightWord, lightLit_lightWord, lightPosIndex_lightPosWord, State.arbStep_cfg]
  refine ⟨lightWord_reserved .., lightRgbWord_reserved _, lightPosWord_reserved _, ?_⟩
  rcases selectLight_cases hc s.arbCfg s.stepStatus.2 s.tick with
    ⟨_, h⟩ | ⟨_, h⟩ | ⟨_, _, hperiod, h⟩ | ⟨_, _, hpos, h⟩
  · simp [h, Kind.code, litPhase, hn, lightPosWord]
  · simp [h, Kind.code, litPhase, hn, lightPosWord]
  · simpa [h, Kind.code, hn, lightPosWord] using hperiod
  · simp [h, Kind.code, litPhase, hpos]

/-! ### The decoder's part -/

/-- R101-R108: one received byte keeps the count and the sync bytes. -/
theorem State.rxByte_decoderInv {s : State} (h : DecoderInv s) (d : Byte) : DecoderInv (s.rxByte d) := by
  obtain ⟨hsync1, hsync2, hcollect⟩ := h
  rcases s.rxByte_cases d with ⟨_, hd, e⟩ | ⟨_, _, e⟩ | ⟨hs, hd, e⟩ | ⟨_, _, e⟩ | ⟨hs, hn, e⟩ | ⟨_, _, _, e⟩ |
    ⟨_, _, _, e⟩ <;> rw [e]
  · simp [DecoderInv, hd]
  · exact ⟨hsync1, hsync2, hcollect⟩
  · obtain ⟨_, h0⟩ := hsync2 hs
    simp [DecoderInv, hd, h0]
  · exact .of_awaitSync1 rfl rfl
  · obtain ⟨hmin, h0, h1⟩ := hcollect hs
    have hsucc : 2 ≤ (s.dcnt + 1).val := by
      rw [Fin.val_add_one_of_lt (Fin.lt_last_iff_ne_last.mpr hn)]
      omega
    refine ⟨nofun, nofun, fun _ => ⟨hsucc, ?_, ?_⟩⟩
    · rw [State.decoderTo_dbuf, State.bufferByte_dbuf, Vector.getElem_set_ne _ _ (by omega), h0]
    · rw [State.decoderTo_dbuf, State.bufferByte_dbuf, Vector.getElem_set_ne _ _ (by omega), h1]
  · exact .of_awaitSync1 rfl rfl
  · exact .of_awaitSync1 rfl rfl

/-! ### The encoder's part -/

/-- R202: a CLK counts one cycle of a burst, or ends it. -/
theorem State.clkOnce_encoderInv {s : State} (hc : s.cfg.wf) (h : EncoderInv s) : EncoderInv s.clkOnce := by
  obtain ⟨hbusy, hidle⟩ := h
  rcases s.clkOnce_cases with ⟨_, e⟩ | ⟨hb, hne, e⟩ | ⟨_, _, e⟩ <;> rw [e]
  · exact ⟨hbusy, hidle⟩
  · obtain ⟨htim, h0h, h1h, hbit, hrst, hlen, hlt⟩ := hbusy hb
    have hmax := burstTotal_lt s.ltbit s.ltrst hc.2
    have hsucc : (s.lt + 1).toNat < burstTotal s.cfg.nPix s.ltbit s.ltrst := by bv_omega
    exact ⟨fun _ => ⟨htim, h0h, h1h, hbit, hrst, hlen, hsucc⟩, fun hb' => absurd (hb.symm.trans hb') nofun⟩
  · exact ⟨nofun, fun _ => rfl⟩

/-- R198: an accepted request latches valid timing and 24·N_PIX bits. -/
theorem State.acceptBurst_encoderInv {s : State} (h : timingOk s.ledT0h s.ledT1h s.ledTbit s.ledTrst = true) :
    EncoderInv s.acceptBurst := by
  obtain ⟨_, _, _, hrst⟩ := (timingOk_iff ..).mp h
  have hlt : 0 < burstTotal s.cfg.nPix s.ledTbit s.ledTrst := Nat.add_pos_right _ hrst
  exact ⟨fun _ => ⟨h, rfl, rfl, rfl, rfl, stripBits_length .., hlt⟩, nofun⟩

/-- R191: with no burst the encoder's part says only that LT is 0. -/
theorem EncoderInv.of_idle {s : State} (hb : s.lbusy = false) (hlt : s.lt = 0) : EncoderInv s :=
  ⟨fun h => absurd (hb.symm.trans h) nofun, fun _ => hlt⟩

/-! ### The operations -/

section
variable {s : State}

theorem Inv.takeRecord (h : Inv s) : Inv s.takeRecord := by
  rcases s.takeRecord_cases with ⟨_, e⟩ | ⟨_, e⟩ <;> rw [e]
  · exact { h with mailbox := nofun }
  · exact h

theorem Inv.rxByte (h : Inv s) (d : Byte) : Inv (s.rxByte d) := by
  have hdec := s.rxByte_decoderInv h.decoder d
  rcases s.rxByte_cases d with ⟨_, _, e⟩ | ⟨_, _, e⟩ | ⟨_, _, e⟩ | ⟨_, _, e⟩ | ⟨_, _, e⟩ | ⟨_, _, _, e⟩ |
    ⟨_, _, _, e⟩ <;> rw [e] at hdec ⊢
  · exact { h with decoder := hdec }
  · exact h
  · exact { h with decoder := hdec }
  · exact { h with decoder := hdec }
  · exact { h with decoder := hdec }
  · rw [State.publish_eq] at hdec ⊢
    exact { h with decoder := hdec, mailbox := fun _ => rfl }
  · exact { h with decoder := hdec }

theorem Inv.arbStep (h : Inv s) : Inv s.arbStep := by
  have hstat := s.arbStep_statusInv
  have hlight := State.arbStep_lightInv h.config
  rw [State.arbStep_eq] at hstat hlight ⊢
  exact { h with staleness := rfl, status := hstat, lights := hlight }

theorem Inv.refreshRequest (h : Inv s) : Inv s.refreshRequest := by
  rcases s.refreshRequest_cases with ⟨_, e⟩ | ⟨_, htim, e⟩ | ⟨_, _, e⟩ <;> rw [e]
  · exact { h with }
  · exact { h with encoder := State.acceptBurst_encoderInv htim }
  · exact { h with }

theorem Inv.writeLedCtrl (h : Inv s) (v : Word) : Inv (s.writeLedCtrl v) := by
  have hsrc : Inv { s with pixsrc := v.getLsbD 1 } := { h with }
  rcases s.writeLedCtrl_cases v with ⟨_, e⟩ | ⟨_, e⟩ <;> rw [e]
  · exact hsrc
  · exact hsrc.refreshRequest

/-- R204-R210: a timing write is dropped while BUSY; its store is t. -/
theorem Inv.dropWrite_or {t : State} (h : Inv s) (ht : s.lbusy = false → Inv t) :
    Inv (if s.lbusy then s.dropWrite else t) := by
  cases hb : s.lbusy with
  | false => exact ht hb
  | true => exact { h with }

theorem Inv.lt_of_idle (h : Inv s) (hb : s.lbusy = false) : s.lt = 0 := h.encoder.2 hb

theorem Inv.writePixelSlot (h : Inv s) (i : BitVec 8) (v : Word) : Inv (s.writePixelSlot i v) := by
  rcases s.writePixelSlot_cases i v with ⟨_, e⟩ | ⟨_, _, e⟩ | ⟨_, _, e⟩ <;> rw [e]
  · exact { h with }
  · exact { h with }
  · exact { h with memory := Memory.write_wf _ _ h.memory }

theorem Inv.clkOnce (h : Inv s) : Inv s.clkOnce := by
  have henc := State.clkOnce_encoderInv h.config h.encoder
  rcases s.clkOnce_cases with ⟨_, e⟩ | ⟨_, _, e⟩ | ⟨_, _, e⟩ <;> rw [e] at henc ⊢
  · exact { h with encoder := henc }
  · exact { h with encoder := henc }
  · exact { h with encoder := henc }

theorem Inv.resetBlock (h : Inv s) : Inv s.resetBlock :=
  { State.resetOf_inv s.draws h.config with }

end

/-- Every operation keeps the invariant, whatever stands in the model's own fields. -/
theorem exec_inv {i : Instr} {s t : State} (h : Inv s) (he : exec i s = .next t) : Inv t := by
  rcases exec_next_cases he with ⟨_, _, rfl⟩ | ⟨_, rfl⟩ | ⟨_, rfl⟩ | ⟨d, _, rfl⟩ | ⟨v, _, rfl⟩ | ⟨v, _, rfl⟩ |
    ⟨_, _, rfl⟩ | ⟨_, rfl⟩ | ⟨v, _, rfl⟩ | ⟨_, _, rfl⟩ | ⟨_, _, rfl⟩ | ⟨_, _, rfl⟩ | ⟨_, _, rfl⟩ | ⟨_, _, rfl⟩ |
    ⟨n, v, _, rfl⟩ | ⟨_, _, rfl⟩ | ⟨_, _, rfl⟩ | ⟨_, rfl⟩ | ⟨_, rfl⟩
  · exact { h with }
  · exact { h with }
  · exact Inv.takeRecord { h with }
  · exact h.rxByte d
  · exact { h with inputs := ⟨masked_reserved v arbInMask, h.inputs.2⟩ }
  · exact { h with inputs := ⟨h.inputs.1, masked_reserved v arbCfgMask⟩ }
  · exact h.arbStep
  · exact { h with }
  · exact h.writeLedCtrl v
  · exact { h with }
  · exact h.dropWrite_or fun hb => { h with encoder := .of_idle hb (h.lt_of_idle hb) }
  · exact h.dropWrite_or fun hb => { h with encoder := .of_idle hb (h.lt_of_idle hb) }
  · exact h.dropWrite_or fun hb => { h with encoder := .of_idle hb (h.lt_of_idle hb) }
  · exact h.dropWrite_or fun hb => { h with encoder := .of_idle hb (h.lt_of_idle hb) }
  · exact h.writePixelSlot n v
  · exact { h with }
  · exact { h with }
  · exact h.clkOnce
  · exact h.resetBlock

/-- Settles O8: an idle step keeps the state, and the start of an operation touches no field Inv reads. -/
theorem stepKeepsInvariant : Obligations.StepKeepsInvariant := by
  unfold Obligations.StepKeepsInvariant
  intro s t h hstep
  rcases step_next_cases hstep with ⟨_, rfl⟩ | ⟨op, rest, _, he⟩
  · exact h
  · have hstart : Inv (s.startOp rest) := { h with }
    exact exec_inv hstart he

end Sys2Proof.Machine
end

section
/-! SUPPORT. Bus accesses by their offset: what a read or write descriptor decodes to, and all that a bus read can do
(R64, R69, R81-R85). -/

namespace Sys2Proof.Machine

/-! ### The fields of a descriptor (R81) -/

/-- R81: CLS and the two Z bits stand in the top four bits. -/
theorem desc_high_fields (d : Desc) : d.extractLsb' 14 2 = (d.extractLsb' 12 4).extractLsb' 2 2 ∧
    d.getLsbD 13 = (d.extractLsb' 12 4).getLsbD 1 ∧ d.getLsbD 12 = (d.extractLsb' 12 4).getLsbD 0 := by
  refine ⟨?_, ?_, ?_⟩
  · apply BitVec.eq_of_toNat_eq
    simp only [extract_toNat]
    omega
  · simp
  · simp

/-- R81, R82: a bus read has CLS and Z zero. -/
theorem decode_of_read {op : Op} (h : op.desc.extractLsb' 12 4 = 0b0000#4) :
    decode op = decodeRead (op.desc.extractLsb' 0 12) := by
  obtain ⟨hcls, hz1, hz0⟩ := desc_high_fields op.desc
  rw [h] at hcls hz1 hz0
  simp only [decode, hcls, hz1, hz0]
  rfl

/-- R81, R82: a bus write has CLS 01 and Z zero. -/
theorem decode_of_write {op : Op} (h : op.desc.extractLsb' 12 4 = 0b0100#4) :
    decode op = decodeWrite (op.desc.extractLsb' 0 12) op.wdata := by
  obtain ⟨hcls, hz1, hz0⟩ := desc_high_fields op.desc
  rw [h] at hcls hz1 hz0
  simp only [decode, hcls, hz1, hz0]
  rfl

/-- A read descriptor is its offset. -/
theorem desc_eq_of_read {d : Desc} {off : Offset} (h : d.extractLsb' 12 4 = 0b0000#4)
    (hoff : d.extractLsb' 0 12 = off) : d = 0b0000#4 ++ off := by
  rw [← h, ← hoff]
  apply BitVec.eq_of_toNat_eq
  have := d.isLt
  rw [toNat_append_eq, extract_toNat, extract_toNat]
  omega

/-! ### Reads (R69) -/

/-- R110: with FRESH = 0 an MB_STAT read takes nothing. -/
theorem exec_rdMbStat_of_not_fresh {s : State} (h : s.fresh = false) :
    exec .rdMbStat s = .next (s.returns (mbStatWord s.ovr s.fresh)) := by
  rcases (s.returns (mbStatWord s.ovr s.fresh)).takeRecord_cases with ⟨hf, _⟩ | ⟨_, e⟩
  · exact absurd (h.symm.trans hf) nofun
  · exact congrArg Host.Outcome.next e

/-- R213: on either reading a pixel read only returns a value. -/
theorem exec_rdPix_only_returns (i : BitVec 8) (s : State) :
    ∃ w cs, exec (.rdPix i) s = .next { s with out := .readData w, conds := cs } := by
  rcases s.readPixel_cases i with ⟨_, _, e⟩ | ⟨_, _, e⟩ | ⟨_, e⟩ <;>
    exact ⟨_, _, congrArg Host.Outcome.next e⟩

/-- R84: the word index of the register table is all of an offset whose other bits are 0. -/
theorem offset_toNat_of_aligned_low {off : Offset} (h0 : ¬ off.getLsbD 0 = true) (h1 : ¬ off.getLsbD 1 = true)
    (h8 : ¬ off.getLsbD 8 = true) (h9 : ¬ off.getLsbD 9 = true) (h10 : ¬ off.getLsbD 10 = true)
    (h11 : ¬ off.getLsbD 11 = true) : off.toNat = 4 * (off.extractLsb' 2 6).toNat := by
  have := off.isLt
  simp only [getLsbD_iff, decide_eq_true_eq] at h0 h1 h8 h9 h10 h11
  rw [extract_toNat]
  omega

/-- R69: a bus read is the MB_STAT read or only returns a value. -/
theorem decodeRead_mbStat_or_only_returns (off : Offset) (s : State) :
    (off = 0x008#12 ∧ decodeRead off = .rdMbStat) ∨
    ∃ w cs, exec (decodeRead off) s = .next { s with out := .readData w, conds := cs } := by
  unfold decodeRead
  split_ifs with h0 h1 h11 h10 h9 h8 _ _
  · exact .inr ⟨_, _, rfl⟩
  · exact .inr ⟨_, _, rfl⟩
  · exact .inr ⟨_, _, rfl⟩
  · exact .inr (exec_rdPix_only_returns _ s)
  · exact .inr ⟨_, _, rfl⟩
  · exact .inr ⟨_, _, rfl⟩
  · exact .inr ⟨_, _, rfl⟩
  · exact .inr ⟨_, _, rfl⟩
  · have hoff := offset_toNat_of_aligned_low h0 h1 h8 h9 h10 h11
    split
    case h_3 hidx =>
      rw [hidx] at hoff
      exact .inl ⟨BitVec.eq_of_toNat_eq hoff, rfl⟩
    all_goals exact .inr ⟨_, _, rfl⟩

/-- Settles O12: the one read that does more is MB_STAT's, and it takes a record only when FRESH is 1. -/
theorem onlyFreshMailboxReadHasSideEffect : Obligations.OnlyFreshMailboxReadHasSideEffect := by
  unfold Obligations.OnlyFreshMailboxReadHasSideEffect
  intro op s hread hfresh
  rw [decode_of_read hread]
  rcases decodeRead_mbStat_or_only_returns (op.desc.extractLsb' 0 12) s with ⟨hoff, hmb⟩ | hret
  · have hf : s.fresh = false := hfresh.resolve_left fun hne => hne (desc_eq_of_read hread hoff)
    rw [hmb]
    exact ⟨_, _, exec_rdMbStat_of_not_fresh hf⟩
  · exact hret

/-! ### Misaligned accesses (R64) -/

theorem getLsbD_of_misaligned {d : Desc} (h : d.extractLsb' 0 2 ≠ 0b00#2) :
    (d.extractLsb' 0 12).getLsbD 0 = true ∨ (d.extractLsb' 0 12).getLsbD 1 = true := by
  by_contra hbits
  simp only [getLsbD_iff, extract_toNat, decide_eq_true_eq, not_or] at hbits
  apply h
  apply BitVec.eq_of_toNat_eq
  rw [extract_toNat, BitVec.toNat_ofNat]
  omega

section
variable {off : Offset} (h : off.getLsbD 0 = true ∨ off.getLsbD 1 = true)
include h

theorem decodeRead_of_misaligned :
    (∃ x, decodeRead off = .rdMisalignedOdd x) ∨ ∃ x, decodeRead off = .rdMisalignedHalf x := by
  by_cases h0 : off.getLsbD 0 = true
  · exact .inl ⟨_, if_pos h0⟩
  · exact .inr ⟨_, (if_neg h0).trans (if_pos (h.resolve_left h0))⟩

theorem decodeWrite_of_misaligned (v : Word) :
    (∃ x, decodeWrite off v = .wrMisalignedOdd x v) ∨ ∃ x, decodeWrite off v = .wrMisalignedHalf x v := by
  by_cases h0 : off.getLsbD 0 = true
  · exact .inl ⟨_, if_pos h0⟩
  · exact .inr ⟨_, (if_neg h0).trans (if_pos (h.resolve_left h0))⟩

end

/-- Settles O13: a misaligned offset decodes to one of the misaligned rows, and each of these is an ignored access. -/
theorem misalignedAccessIsIgnored : Obligations.MisalignedAccessIsIgnored := by
  unfold Obligations.MisalignedAccessIsIgnored
  refine ⟨fun op s hread hmis => ?_, fun op s hwrite hmis => ?_, fun _ _ => rfl, fun _ _ => rfl, fun _ _ _ => rfl,
    fun _ _ _ => rfl⟩
  · rw [decode_of_read hread]
    rcases decodeRead_of_misaligned (getLsbD_of_misaligned hmis) with ⟨_, e⟩ | ⟨_, e⟩ <;> rw [e] <;> rfl
  · rw [decode_of_write hwrite]
    rcases decodeWrite_of_misaligned (getLsbD_of_misaligned hmis) op.wdata with ⟨_, e⟩ | ⟨_, e⟩ <;> rw [e] <;> rfl

end Sys2Proof.Machine
end

section
/-! SUPPORT. The decoder and the encoder as two readings of one table (R81-R90). The table's rows are gone through once,
each with its descriptor written as fixed bits, free field, fixed bits; every descriptor is met by a row, so what holds
of the rows holds of the decoder. -/

namespace Sys2Proof.Machine

/-! ### A descriptor as a concatenation of fields

The library's facts about the bits, the fields and the value of a concatenation, in the form that the simplifier also
uses where the width is written as a numeral, as it is in a descriptor or an offset. -/

section
variable {a b : Nat} (x : BitVec a) (y : BitVec b)

theorem getElem_concat {k : Nat} (h : k < a + b) :
    getElem (coll := no_index _) (no_index (x ++ y)) k h = if hk : k < b then y[k] else x[k - b] :=
  BitVec.getElem_append h

theorem extract_concat_high {s l : Nat} (hs : b ≤ s) :
    (no_index (x ++ y)).extractLsb' (n := no_index _) s l = x.extractLsb' (s - b) l :=
  BitVec.extractLsb'_append_eq_of_le hs

theorem extract_concat_low {s l : Nat} (hs : s + l ≤ b) :
    (no_index (x ++ y)).extractLsb' (n := no_index _) s l = y.extractLsb' s l :=
  BitVec.extractLsb'_append_eq_of_add_le hs

theorem toNat_concat : (no_index (x ++ y)).toNat (w := no_index _) = x.toNat * 2 ^ b + y.toNat :=
  toNat_append_eq x y

end

theorem two_bit_cases (x : BitVec 2) : x = 0b00#2 ∨ x = 0b01#2 ∨ x = 0b10#2 ∨ x = 0b11#2 := by
  revert x
  decide

/-! ### A descriptor by its class, for any operand lanes -/

section
variable {d : Desc} (v : Word) (r : Byte)

/-- R81, R82: a bus read, whatever stands in the operand lanes. -/
theorem decode_read_desc (h : d.extractLsb' 12 4 = 0b0000#4) : decode ⟨d, v, r⟩ = decodeRead (d.extractLsb' 0 12) :=
  decode_of_read h

/-- R81, R82: a bus write takes the write data only. -/
theorem decode_write_desc (h : d.extractLsb' 12 4 = 0b0100#4) :
    decode ⟨d, v, r⟩ = decodeWrite (d.extractLsb' 0 12) v :=
  decode_of_write h

/-- R81, R83: a port event has CLS 10 and Z zero, and takes the received byte only. -/
theorem decode_event_desc (h : d.extractLsb' 12 4 = 0b1000#4) :
    decode ⟨d, v, r⟩ = decodeEvent (d.extractLsb' 0 12) r := by
  obtain ⟨hcls, hz1, hz0⟩ := desc_high_fields d
  rw [h] at hcls hz1 hz0
  simp only [decode, hcls, hz1, hz0]
  rfl

end

/-! ### The rows of the bus accesses (R64, R84, R85, R88) -/

/-- The table has the rows rd and wr at the offset off: the decoder reads them there and the encoder writes them so. -/
structure OffsetRow (off : Offset) (rd : Instr) (wr : Word → Instr) : Prop where
  decodeRead_eq : decodeRead off = rd
  decodeWrite_eq : ∀ v, decodeWrite off v = wr v
  encode_rd : encode rd = { desc := 0b0000#4 ++ off }
  encode_wr : ∀ v, encode (wr v) = { desc := 0b0100#4 ++ off, wdata := v }
  completes : ∀ s, (∃ t, exec rd s = .next t) ∧ ∀ v, ∃ t, exec (wr v) s = .next t

/-- How a row's pattern is matched with class, Z and offset: as numbers. -/
theorem op_eq_of_toNat {d e : Desc} {v : Word} {r : Byte} (h : d.toNat = e.toNat) :
    (⟨d, v, r⟩ : Op) = ⟨e, v, r⟩ :=
  congrArg (Op.mk · v r) (BitVec.eq_of_toNat_eq h)

theorem offsetRow_misalignedOdd (x : BitVec 11) :
    OffsetRow (x ++ 0b1#1) (.rdMisalignedOdd x) (.wrMisalignedOdd x) where
  decodeRead_eq := by simp [decodeRead, getElem_concat, extract_concat_high]
  decodeWrite_eq _ := by simp [decodeWrite, getElem_concat, extract_concat_high]
  encode_rd := op_eq_of_toNat (by simp only [toNat_concat, BitVec.toNat_ofNat]; omega)
  encode_wr _ := op_eq_of_toNat (by simp only [toNat_concat, BitVec.toNat_ofNat]; omega)
  completes _ := ⟨⟨_, rfl⟩, fun _ => ⟨_, rfl⟩⟩

theorem offsetRow_misalignedHalf (x : BitVec 10) :
    OffsetRow (x ++ 0b10#2) (.rdMisalignedHalf x) (.wrMisalignedHalf x) where
  decodeRead_eq := by simp [decodeRead, getElem_concat, extract_concat_high]
  decodeWrite_eq _ := by simp [decodeWrite, getElem_concat, extract_concat_high]
  encode_rd := op_eq_of_toNat (by simp only [toNat_concat, BitVec.toNat_ofNat]; omega)
  encode_wr _ := op_eq_of_toNat (by simp only [toNat_concat, BitVec.toNat_ofNat]; omega)
  completes _ := ⟨⟨_, rfl⟩, fun _ => ⟨_, rfl⟩⟩

theorem offsetRow_reserved800 (x : BitVec 9) :
    OffsetRow (0b1#1 ++ x ++ 0b00#2) (.rdReserved800 x) (.wrReserved800 x) where
  decodeRead_eq := by simp [decodeRead, getElem_concat, extract_concat_high, extract_concat_low]
  decodeWrite_eq _ := by simp [decodeWrite, getElem_concat, extract_concat_high, extract_concat_low]
  encode_rd := op_eq_of_toNat (by simp only [toNat_concat, BitVec.toNat_ofNat]; omega)
  encode_wr _ := op_eq_of_toNat (by simp only [toNat_concat, BitVec.toNat_ofNat]; omega)
  completes _ := ⟨⟨_, rfl⟩, fun _ => ⟨_, rfl⟩⟩

theorem offsetRow_pix (i : BitVec 8) : OffsetRow (0b01#2 ++ i ++ 0b00#2) (.rdPix i) (.wrPix i) where
  decodeRead_eq := by simp [decodeRead, getElem_concat, extract_concat_high, extract_concat_low]
  decodeWrite_eq _ := by simp [decodeWrite, getElem_concat, extract_concat_high, extract_concat_low]
  encode_rd := op_eq_of_toNat (by simp only [toNat_concat, BitVec.toNat_ofNat]; omega)
  encode_wr _ := op_eq_of_toNat (by simp only [toNat_concat, BitVec.toNat_ofNat]; omega)
  completes _ := ⟨⟨_, rfl⟩, fun _ => ⟨_, rfl⟩⟩

theorem offsetRow_reserved200 (x : BitVec 7) :
    OffsetRow (0b001#3 ++ x ++ 0b00#2) (.rdReserved200 x) (.wrReserved200 x) where
  decodeRead_eq := by simp [decodeRead, getElem_concat, extract_concat_high, extract_concat_low]
  decodeWrite_eq _ := by simp [decodeWrite, getElem_concat, extract_concat_high, extract_concat_low]
  encode_rd := op_eq_of_toNat (by simp only [toNat_concat, BitVec.toNat_ofNat]; omega)
  encode_wr _ := op_eq_of_toNat (by simp only [toNat_concat, BitVec.toNat_ofNat]; omega)
  completes _ := ⟨⟨_, rfl⟩, fun _ => ⟨_, rfl⟩⟩

theorem offsetRow_reserved100 (x : BitVec 6) :
    OffsetRow (0b0001#4 ++ x ++ 0b00#2) (.rdReserved100 x) (.wrReserved100 x) where
  decodeRead_eq := by simp [decodeRead, getElem_concat, extract_concat_high, extract_concat_low]
  decodeWrite_eq _ := by simp [decodeWrite, getElem_concat, extract_concat_high, extract_concat_low]
  encode_rd := op_eq_of_toNat (by simp only [toNat_concat, BitVec.toNat_ofNat]; omega)
  encode_wr _ := op_eq_of_toNat (by simp only [toNat_concat, BitVec.toNat_ofNat]; omega)
  completes _ := ⟨⟨_, rfl⟩, fun _ => ⟨_, rfl⟩⟩

theorem offsetRow_reserved0C0 (x : BitVec 4) :
    OffsetRow (0b000011#6 ++ x ++ 0b00#2) (.rdReserved0C0 x) (.wrReserved0C0 x) where
  decodeRead_eq := by simp [decodeRead, getElem_concat, extract_concat_high, extract_concat_low]
  decodeWrite_eq _ := by simp [decodeWrite, getElem_concat, extract_concat_high, extract_concat_low]
  encode_rd := op_eq_of_toNat (by simp only [toNat_concat, BitVec.toNat_ofNat]; omega)
  encode_wr _ := op_eq_of_toNat (by simp only [toNat_concat, BitVec.toNat_ofNat]; omega)
  completes _ := ⟨⟨_, rfl⟩, fun _ => ⟨_, rfl⟩⟩

theorem offsetRow_reserved0A0 (x : BitVec 3) :
    OffsetRow (0b0000101#7 ++ x ++ 0b00#2) (.rdReserved0A0 x) (.wrReserved0A0 x) where
  decodeRead_eq := by simp [decodeRead, getElem_concat, extract_concat_high, extract_concat_low]
  decodeWrite_eq _ := by simp [decodeWrite, getElem_concat, extract_concat_high, extract_concat_low]
  encode_rd := op_eq_of_toNat (by simp only [toNat_concat, BitVec.toNat_ofNat]; omega)
  encode_wr _ := op_eq_of_toNat (by simp only [toNat_concat, BitVec.toNat_ofNat]; omega)
  completes _ := ⟨⟨_, rfl⟩, fun _ => ⟨_, rfl⟩⟩

/-- The field of this row overlaps the word index of the register table: its four words are looked up. -/
theorem offsetRow_reserved090 (x : BitVec 2) :
    OffsetRow (0b00001001#8 ++ x ++ 0b00#2) (.rdReserved090 x) (.wrReserved090 x) := by
  rcases two_bit_cases x with rfl | rfl | rfl | rfl
  all_goals exact ⟨rfl, fun _ => rfl, rfl, fun _ => rfl, fun _ => ⟨⟨_, rfl⟩, fun _ => ⟨_, rfl⟩⟩⟩

/-- R84: the words 0x000 to 0x08C, 0x00C among them, each with a row of its own. -/
theorem offsetRow_register {k : Nat} (hk : k < 36) : ∃ rd wr, OffsetRow (BitVec.ofNat 12 (4 * k)) rd wr := by
  interval_cases k
  all_goals exact ⟨_, _, rfl, fun _ => rfl, rfl, fun _ => rfl, fun _ => ⟨⟨_, rfl⟩, fun _ => ⟨_, rfl⟩⟩⟩

theorem OffsetRow.exists_at {off off' : Offset} {rd : Instr} {wr : Word → Instr} (h : OffsetRow off' rd wr)
    (e : off.toNat = off'.toNat) : ∃ rd wr, OffsetRow off rd wr :=
  ⟨rd, wr, BitVec.eq_of_toNat_eq e ▸ h⟩

/-- R64, R84, R85, R88: the rows leave no offset out. -/
theorem exists_offsetRow (off : Offset) : ∃ rd wr, OffsetRow off rd wr := by
  have ranges : off.toNat % 2 = 1 ∨ off.toNat % 4 = 2 ∨
      off.toNat % 4 = 0 ∧ (0x800 ≤ off.toNat ∨ 0x400 ≤ off.toNat ∧ off.toNat < 0x800 ∨
        0x200 ≤ off.toNat ∧ off.toNat < 0x400 ∨ 0x100 ≤ off.toNat ∧ off.toNat < 0x200 ∨
        0x0C0 ≤ off.toNat ∧ off.toNat < 0x100 ∨ 0x0A0 ≤ off.toNat ∧ off.toNat < 0x0C0 ∨
        0x090 ≤ off.toNat ∧ off.toNat < 0x0A0 ∨ off.toNat < 0x090) := by
    omega
  have hlt := off.isLt
  rcases ranges with h | h | ⟨h4, h | h | h | h | h | h | h | h⟩
  on_goal 1 => refine (offsetRow_misalignedOdd (off.extractLsb' 1 11)).exists_at ?_
  on_goal 2 => refine (offsetRow_misalignedHalf (off.extractLsb' 2 10)).exists_at ?_
  on_goal 3 => refine (offsetRow_reserved800 (off.extractLsb' 2 9)).exists_at ?_
  on_goal 4 => refine (offsetRow_pix (off.extractLsb' 2 8)).exists_at ?_
  on_goal 5 => refine (offsetRow_reserved200 (off.extractLsb' 2 7)).exists_at ?_
  on_goal 6 => refine (offsetRow_reserved100 (off.extractLsb' 2 6)).exists_at ?_
  on_goal 7 => refine (offsetRow_reserved0C0 (off.extractLsb' 2 4)).exists_at ?_
  on_goal 8 => refine (offsetRow_reserved0A0 (off.extractLsb' 2 3)).exists_at ?_
  on_goal 9 => refine (offsetRow_reserved090 (off.extractLsb' 2 2)).exists_at ?_
  on_goal 10 =>
    obtain ⟨rd, wr, hrow⟩ := offsetRow_register (k := off.toNat / 4) (by omega)
    refine hrow.exists_at ?_
  all_goals
    simp only [toNat_concat, extract_toNat, BitVec.toNat_ofNat]
    omega

/-! ### The refused rows of the port events (R83) -/

/-- The table has the refused row i at the event id evt. -/
structure RefusedEventRow (evt : Offset) (i : Instr) : Prop where
  decodeEvent_eq : ∀ r, decodeEvent evt r = i
  encode_eq : encode i = { desc := 0b1000#4 ++ evt }
  wellFormed : i.wellFormed = true
  refused : ∀ s, exec i s = .refused (.descReserved (encode i).desc)

theorem refusedEventRow_004 (x : BitVec 2) : RefusedEventRow (0b0000000001#10 ++ x) (.refusedEvt004 x) where
  decodeEvent_eq _ := by simp [decodeEvent, getElem_concat, extract_concat_low]
  encode_eq := op_eq_of_toNat (by simp only [toNat_concat, BitVec.toNat_ofNat]; omega)
  wellFormed := rfl
  refused _ := rfl

theorem refusedEventRow_008 (x : BitVec 3) : RefusedEventRow (0b000000001#9 ++ x) (.refusedEvt008 x) where
  decodeEvent_eq _ := by simp [decodeEvent, getElem_concat, extract_concat_low]
  encode_eq := op_eq_of_toNat (by simp only [toNat_concat, BitVec.toNat_ofNat]; omega)
  wellFormed := rfl
  refused _ := rfl

theorem refusedEventRow_010 (x : BitVec 4) : RefusedEventRow (0b00000001#8 ++ x) (.refusedEvt010 x) where
  decodeEvent_eq _ := by simp [decodeEvent, getElem_concat, extract_concat_low]
  encode_eq := op_eq_of_toNat (by simp only [toNat_concat, BitVec.toNat_ofNat]; omega)
  wellFormed := rfl
  refused _ := rfl

theorem refusedEventRow_020 (x : BitVec 5) : RefusedEventRow (0b0000001#7 ++ x) (.refusedEvt020 x) where
  decodeEvent_eq _ := by simp [decodeEvent, getElem_concat, extract_concat_low]
  encode_eq := op_eq_of_toNat (by simp only [toNat_concat, BitVec.toNat_ofNat]; omega)
  wellFormed := rfl
  refused _ := rfl

theorem refusedEventRow_040 (x : BitVec 6) : RefusedEventRow (0b000001#6 ++ x) (.refusedEvt040 x) where
  decodeEvent_eq _ := by simp [decodeEvent, getElem_concat, extract_concat_low]
  encode_eq := op_eq_of_toNat (by simp only [toNat_concat, BitVec.toNat_ofNat]; omega)
  wellFormed := rfl
  refused _ := rfl

theorem refusedEventRow_080 (x : BitVec 7) : RefusedEventRow (0b00001#5 ++ x) (.refusedEvt080 x) where
  decodeEvent_eq _ := by simp [decodeEvent, getElem_concat, extract_concat_low]
  encode_eq := op_eq_of_toNat (by simp only [toNat_concat, BitVec.toNat_ofNat]; omega)
  wellFormed := rfl
  refused _ := rfl

theorem refusedEventRow_100 (x : BitVec 8) : RefusedEventRow (0b0001#4 ++ x) (.refusedEvt100 x) where
  decodeEvent_eq _ := by simp [decodeEvent, getElem_concat, extract_concat_low]
  encode_eq := op_eq_of_toNat (by simp only [toNat_concat, BitVec.toNat_ofNat]; omega)
  wellFormed := rfl
  refused _ := rfl

theorem refusedEventRow_200 (x : BitVec 9) : RefusedEventRow (0b001#3 ++ x) (.refusedEvt200 x) where
  decodeEvent_eq _ := by simp [decodeEvent, getElem_concat, extract_concat_low]
  encode_eq := op_eq_of_toNat (by simp only [toNat_concat, BitVec.toNat_ofNat]; omega)
  wellFormed := rfl
  refused _ := rfl

theorem refusedEventRow_400 (x : BitVec 10) : RefusedEventRow (0b01#2 ++ x) (.refusedEvt400 x) where
  decodeEvent_eq _ := by simp [decodeEvent, getElem_concat, extract_concat_low]
  encode_eq := op_eq_of_toNat (by simp only [toNat_concat, BitVec.toNat_ofNat]; omega)
  wellFormed := rfl
  refused _ := rfl

theorem refusedEventRow_800 (x : BitVec 11) : RefusedEventRow (0b1#1 ++ x) (.refusedEvt800 x) where
  decodeEvent_eq _ := by simp [decodeEvent, getElem_concat, extract_concat_low]
  encode_eq := op_eq_of_toNat (by simp only [toNat_concat, BitVec.toNat_ofNat]; omega)
  wellFormed := rfl
  refused _ := rfl

theorem RefusedEventRow.exists_at {evt evt' : Offset} {i : Instr} (h : RefusedEventRow evt' i)
    (e : evt.toNat = evt'.toNat) : ∃ i, RefusedEventRow evt i :=
  ⟨i, BitVec.eq_of_toNat_eq e ▸ h⟩

/-- R83: the refused rows leave no reserved event id out. -/
theorem exists_refusedEventRow {evt : Offset} (h : 0x004 ≤ evt.toNat) : ∃ i, RefusedEventRow evt i := by
  have ranges : 0x800 ≤ evt.toNat ∨ 0x400 ≤ evt.toNat ∧ evt.toNat < 0x800 ∨
      0x200 ≤ evt.toNat ∧ evt.toNat < 0x400 ∨ 0x100 ≤ evt.toNat ∧ evt.toNat < 0x200 ∨
      0x080 ≤ evt.toNat ∧ evt.toNat < 0x100 ∨ 0x040 ≤ evt.toNat ∧ evt.toNat < 0x080 ∨
      0x020 ≤ evt.toNat ∧ evt.toNat < 0x040 ∨ 0x010 ≤ evt.toNat ∧ evt.toNat < 0x020 ∨
      0x008 ≤ evt.toNat ∧ evt.toNat < 0x010 ∨ evt.toNat < 0x008 := by
    omega
  have hlt := evt.isLt
  rcases ranges with hr | hr | hr | hr | hr | hr | hr | hr | hr | hr
  on_goal 1 => refine (refusedEventRow_800 (evt.extractLsb' 0 11)).exists_at ?_
  on_goal 2 => refine (refusedEventRow_400 (evt.extractLsb' 0 10)).exists_at ?_
  on_goal 3 => refine (refusedEventRow_200 (evt.extractLsb' 0 9)).exists_at ?_
  on_goal 4 => refine (refusedEventRow_100 (evt.extractLsb' 0 8)).exists_at ?_
  on_goal 5 => refine (refusedEventRow_080 (evt.extractLsb' 0 7)).exists_at ?_
  on_goal 6 => refine (refusedEventRow_040 (evt.extractLsb' 0 6)).exists_at ?_
  on_goal 7 => refine (refusedEventRow_020 (evt.extractLsb' 0 5)).exists_at ?_
  on_goal 8 => refine (refusedEventRow_010 (evt.extractLsb' 0 4)).exists_at ?_
  on_goal 9 => refine (refusedEventRow_008 (evt.extractLsb' 0 3)).exists_at ?_
  on_goal 10 => refine (refusedEventRow_004 (evt.extractLsb' 0 2)).exists_at ?_
  all_goals
    simp only [toNat_concat, extract_toNat, BitVec.toNat_ofNat]
    omega

/-- R83: the four event ids that name an operation. -/
theorem decodeEvent_of_lt {evt : Offset} (r : Byte) (h : evt.toNat < 0x004) :
    (evt = 0x000#12 ∧ decodeEvent evt r = .rx r) ∨ (evt = 0x001#12 ∧ decodeEvent evt r = .tick) ∨
    (evt = 0x002#12 ∧ decodeEvent evt r = .clk) ∨ (evt = 0x003#12 ∧ decodeEvent evt r = .reset) := by
  have hevt : evt = BitVec.ofNat 12 evt.toNat := by rw [BitVec.ofNat_toNat, BitVec.setWidth_eq]
  generalize evt.toNat = n at h hevt
  subst hevt
  interval_cases n
  · exact .inl ⟨rfl, rfl⟩
  · exact .inr (.inl ⟨rfl, rfl⟩)
  · exact .inr (.inr (.inl ⟨rfl, rfl⟩))
  · exact .inr (.inr (.inr ⟨rfl, rfl⟩))

/-! ### The decoder by the class of the descriptor (R82) -/

theorem desc_z_field (d : Desc) : d.extractLsb' 12 2 = (d.extractLsb' 12 4).extractLsb' 0 2 := by
  apply BitVec.eq_of_toNat_eq
  simp only [extract_toNat]
  omega

/-- R82: CLS is 11, or Z is 1x, or Z is 01, or the descriptor is a bus read, a bus write or a port event. -/
theorem top_bits_cases : ∀ top : BitVec 4, top.extractLsb' 2 2 = 0b11#2 ∨
    (top.extractLsb' 2 2 ≠ 0b11#2 ∧ top.getLsbD 1 = true) ∨
    (top.extractLsb' 2 2 ≠ 0b11#2 ∧ top.getLsbD 1 = false ∧ top.getLsbD 0 = true) ∨
    top = 0b0000#4 ∨ top = 0b0100#4 ∨ top = 0b1000#4 := by
  decide

/-- R82: what the decoder makes of each of these, in this order (log entry 13). -/
theorem decode_cases (op : Op) :
    (op.desc.extractLsb' 14 2 = 0b11#2 ∧ decode op = .refusedCls11 (op.desc.extractLsb' 0 14)) ∨
    (op.desc.extractLsb' 14 2 ≠ 0b11#2 ∧ op.desc.getLsbD 13 = true ∧
      decode op = .refusedZ1x (op.desc.extractLsb' 14 2) (op.desc.extractLsb' 12 1) (op.desc.extractLsb' 0 12)) ∨
    (op.desc.extractLsb' 14 2 ≠ 0b11#2 ∧ op.desc.getLsbD 13 = false ∧ op.desc.getLsbD 12 = true ∧
      decode op = .refusedZ01 (op.desc.extractLsb' 14 2) (op.desc.extractLsb' 0 12)) ∨
    (op.desc.extractLsb' 12 4 = 0b0000#4 ∧ decode op = decodeRead (op.desc.extractLsb' 0 12)) ∨
    (op.desc.extractLsb' 12 4 = 0b0100#4 ∧ decode op = decodeWrite (op.desc.extractLsb' 0 12) op.wdata) ∨
    (op.desc.extractLsb' 12 4 = 0b1000#4 ∧ decode op = decodeEvent (op.desc.extractLsb' 0 12) op.rxData) := by
  obtain ⟨hcls, hz1, hz0⟩ := desc_high_fields op.desc
  have hcases := top_bits_cases (op.desc.extractLsb' 12 4)
  rw [← hcls, ← hz1, ← hz0] at hcases
  rcases hcases with h | ⟨hne, h13⟩ | ⟨hne, h13, h12⟩ | h | h | h
  · exact .inl ⟨h, by simp only [decode, beq_iff_eq, h, if_true]⟩
  · exact .inr (.inl ⟨hne, h13, by simp only [decode, beq_iff_eq, hne, h13, if_true, if_false]⟩)
  · refine .inr (.inr (.inl ⟨hne, h13, h12, ?_⟩))
    simp only [decode, beq_iff_eq, hne, h13, h12, if_true, if_false, Bool.false_eq_true]
  · exact .inr (.inr (.inr (.inl ⟨h, decode_of_read h⟩)))
  · exact .inr (.inr (.inr (.inr (.inl ⟨h, decode_of_write h⟩))))
  · exact .inr (.inr (.inr (.inr (.inr ⟨h, decode_event_desc _ _ h⟩))))

/-! ### The encoder after the decoder (R81, R86, R89) -/

/-- R81: a descriptor is its class and Z bits, then the rest. -/
theorem desc_eq_append {d : Desc} {top : BitVec 4} (h : d.extractLsb' 12 4 = top) : top ++ d.extractLsb' 0 12 = d :=
  h ▸ BitVec.extractLsb'_append_extractLsb' (w := 4) (len := 12)

theorem encode_decodeEvent_desc (evt : Offset) (r : Byte) : (encode (decodeEvent evt r)).desc = 0b1000#4 ++ evt := by
  rcases Nat.lt_or_ge evt.toNat 0x004 with hlt | hge
  · rcases decodeEvent_of_lt r hlt with ⟨rfl, e⟩ | ⟨rfl, e⟩ | ⟨rfl, e⟩ | ⟨rfl, e⟩ <;> rw [e] <;> rfl
  · obtain ⟨i, hrow⟩ := exists_refusedEventRow hge
    rw [hrow.decodeEvent_eq, hrow.encode_eq]

theorem encode_decode_desc (op : Op) : (encode (decode op)).desc = op.desc := by
  obtain ⟨rd, wr, hrow⟩ := exists_offsetRow (op.desc.extractLsb' 0 12)
  rcases decode_cases op with ⟨hcls, e⟩ | ⟨_, h13, e⟩ | ⟨_, h13, h12, e⟩ | ⟨htop, e⟩ | ⟨htop, e⟩ | ⟨htop, e⟩
  all_goals rw [e]
  · rw [encode, ← hcls]
    exact BitVec.extractLsb'_append_extractLsb' (w := 2) (len := 14)
  · rw [getLsbD_iff, decide_eq_true_eq] at h13
    apply BitVec.eq_of_toNat_eq
    simp only [encode, toNat_concat, extract_toNat, BitVec.toNat_ofNat]
    omega
  · rw [getLsbD_iff, decide_eq_false_iff_not] at h13
    rw [getLsbD_iff, decide_eq_true_eq] at h12
    apply BitVec.eq_of_toNat_eq
    simp only [encode, toNat_concat, extract_toNat, BitVec.toNat_ofNat]
    omega
  · rw [hrow.decodeRead_eq, hrow.encode_rd, desc_eq_append htop]
  · rw [hrow.decodeWrite_eq, hrow.encode_wr, desc_eq_append htop]
  · rw [encode_decodeEvent_desc, desc_eq_append htop]

/-- Only terms of two refused rows are ill-formed. -/
theorem wellFormed_of_next {i : Instr} {s t : State} (h : exec i s = .next t) : i.wellFormed = true := by
  cases i with
  | refusedZ01 cls off => cases h
  | refusedZ1x cls z0 off => cases h
  | _ => rfl

theorem decodeRead_completes (off : Offset) (s : State) : ∃ t, exec (decodeRead off) s = .next t := by
  obtain ⟨rd, wr, hrow⟩ := exists_offsetRow off
  rw [hrow.decodeRead_eq]
  exact (hrow.completes s).1

theorem decodeWrite_completes (off : Offset) (v : Word) (s : State) : ∃ t, exec (decodeWrite off v) s = .next t := by
  obtain ⟨rd, wr, hrow⟩ := exists_offsetRow off
  rw [hrow.decodeWrite_eq]
  exact (hrow.completes s).2 v

theorem decodeEvent_completes {evt : Offset} (r : Byte) (h : evt.toNat < 0x004) (s : State) :
    ∃ t, exec (decodeEvent evt r) s = .next t := by
  rcases decodeEvent_of_lt r h with ⟨_, e⟩ | ⟨_, e⟩ | ⟨_, e⟩ | ⟨_, e⟩ <;> rw [e] <;> exact ⟨_, rfl⟩

theorem decodeEvent_wellFormed (evt : Offset) (r : Byte) : (decodeEvent evt r).wellFormed = true := by
  rcases Nat.lt_or_ge evt.toNat 0x004 with hlt | hge
  · obtain ⟨t, h⟩ := decodeEvent_completes r hlt State.reset
    exact wellFormed_of_next h
  · obtain ⟨i, hrow⟩ := exists_refusedEventRow hge
    rw [hrow.decodeEvent_eq]
    exact hrow.wellFormed

theorem decode_wellFormed (op : Op) : (decode op).wellFormed = true := by
  rcases decode_cases op with ⟨_, e⟩ | ⟨hcls, _, e⟩ | ⟨hcls, _, _, e⟩ | ⟨_, e⟩ | ⟨_, e⟩ | ⟨_, e⟩ <;> rw [e]
  · rfl
  · exact bne_iff_ne.2 hcls
  · exact bne_iff_ne.2 hcls
  · obtain ⟨t, h⟩ := decodeRead_completes (op.desc.extractLsb' 0 12) State.reset
    exact wellFormed_of_next h
  · obtain ⟨t, h⟩ := decodeWrite_completes (op.desc.extractLsb' 0 12) op.wdata State.reset
    exact wellFormed_of_next h
  · exact decodeEvent_wellFormed _ _

theorem encode_decodeWrite_wdata (off : Offset) (v : Word) : (encode (decodeWrite off v)).wdata = v := by
  obtain ⟨rd, wr, hrow⟩ := exists_offsetRow off
  rw [hrow.decodeWrite_eq, hrow.encode_wr]

/-- Settles O2: the descriptor by its class; a write's data and RX's byte stand in the lane the row takes. -/
theorem encodeOfDecodeKeepsDescriptorAndOperands : Obligations.EncodeOfDecodeKeepsDescriptorAndOperands := by
  unfold Obligations.EncodeOfDecodeKeepsDescriptorAndOperands
  refine fun op => ⟨decode_wellFormed op, encode_decode_desc op, fun htop => ?_, fun hrx => ?_⟩
  · rw [decode_of_write htop, encode_decodeWrite_wdata]
  · obtain ⟨d, v, r⟩ := op
    cases hrx
    rw [decode_event_desc v r (by decide)]
    rfl

/-- R82: a descriptor with CLS 11 or Z not 00 is refused. -/
theorem exec_decode_of_reserved {op : Op}
    (h : op.desc.extractLsb' 14 2 = 0b11#2 ∨ op.desc.extractLsb' 12 2 ≠ 0b00#2) (s : State) :
    exec (decode op) s = .refused (.descReserved (encode (decode op)).desc) := by
  rw [(desc_high_fields op.desc).1, desc_z_field] at h
  rcases decode_cases op with ⟨_, e⟩ | ⟨_, _, e⟩ | ⟨_, _, _, e⟩ | ⟨htop, _⟩ | ⟨htop, _⟩ | ⟨htop, _⟩
  iterate 3
    · rw [e]
      rfl
  all_goals
    rw [htop] at h
    exact absurd h (by decide)

/-- Settles O3: the reserved classes by the decoder's first three branches, event ids by the refused rows of the table;
every other descriptor is met by a row that completes. -/
theorem exactlyReservedDescriptorsAreRefused : Obligations.ExactlyReservedDescriptorsAreRefused := by
  unfold Obligations.ExactlyReservedDescriptorsAreRefused
  intro op s
  have hd := encode_decode_desc op
  refine ⟨fun hcls => ?_, fun hz => ?_, fun htop hid => ?_, fun htop hid => ?_, fun htop => ?_⟩
  · rw [exec_decode_of_reserved (.inl hcls), hd]
  · rw [exec_decode_of_reserved (.inr hz), hd]
  · have e : decode op = _ := decode_event_desc op.wdata op.rxData htop
    obtain ⟨i, hrow⟩ := exists_refusedEventRow hid
    rw [hrow.decodeEvent_eq] at e
    rw [← hd, e, hrow.refused]
  · have e : decode op = _ := decode_event_desc op.wdata op.rxData htop
    rw [e]
    exact decodeEvent_completes _ hid s
  · rcases htop with htop | htop
    · rw [decode_of_read htop]
      exact decodeRead_completes _ s
    · rw [decode_of_write htop]
      exact decodeWrite_completes _ _ s

/-! ### The decoder after the encoder (O1) -/

theorem OffsetRow.decode_encode_rd {off : Offset} {rd : Instr} {wr : Word → Instr} (h : OffsetRow off rd wr) :
    decode (encode rd) = rd := by
  rw [h.encode_rd, decode_read_desc 0 0 BitVec.extractLsb'_append_eq_left, BitVec.extractLsb'_append_eq_right,
    h.decodeRead_eq]

theorem OffsetRow.decode_encode_wr {off : Offset} {rd : Instr} {wr : Word → Instr} (h : OffsetRow off rd wr)
    (v : Word) : decode (encode (wr v)) = wr v := by
  rw [h.encode_wr, decode_write_desc v 0 BitVec.extractLsb'_append_eq_left, BitVec.extractLsb'_append_eq_right,
    h.decodeWrite_eq]

theorem RefusedEventRow.decode_encode {evt : Offset} {i : Instr} (h : RefusedEventRow evt i) :
    decode (encode i) = i := by
  rw [h.encode_eq, decode_event_desc 0 0 BitVec.extractLsb'_append_eq_left, BitVec.extractLsb'_append_eq_right,
    h.decodeEvent_eq]

theorem decode_encode_refusedCls11 (x : BitVec 14) : decode (encode (.refusedCls11 x)) = .refusedCls11 x := by
  simp [decode, encode, extract_concat_high, extract_concat_low]

section
variable {cls : BitVec 2} (hcls : cls ≠ 0b11#2) (off : Offset)
include hcls

theorem decode_encode_refusedZ01 : decode (encode (.refusedZ01 cls off)) = .refusedZ01 cls off := by
  simp [decode, encode, hcls, getElem_concat, extract_concat_high, extract_concat_low]

theorem decode_encode_refusedZ1x (z0 : BitVec 1) :
    decode (encode (.refusedZ1x cls z0 off)) = .refusedZ1x cls z0 off := by
  simp [decode, encode, hcls, getElem_concat, extract_concat_high, extract_concat_low]

end

/-- Settles O1: a row with a free field is one of those gone through above; the register rows, the four events and the
words without a field are looked up. -/
theorem decodeOfEncodeIsIdentity : Obligations.DecodeOfEncodeIsIdentity := by
  unfold Obligations.DecodeOfEncodeIsIdentity
  intro i hwf
  cases i with
  | rdMisalignedOdd x => exact (offsetRow_misalignedOdd x).decode_encode_rd
  | wrMisalignedOdd x v => exact (offsetRow_misalignedOdd x).decode_encode_wr v
  | rdMisalignedHalf x => exact (offsetRow_misalignedHalf x).decode_encode_rd
  | wrMisalignedHalf x v => exact (offsetRow_misalignedHalf x).decode_encode_wr v
  | rdReserved800 x => exact (offsetRow_reserved800 x).decode_encode_rd
  | wrReserved800 x v => exact (offsetRow_reserved800 x).decode_encode_wr v
  | rdPix i => exact (offsetRow_pix i).decode_encode_rd
  | wrPix i v => exact (offsetRow_pix i).decode_encode_wr v
  | rdReserved200 x => exact (offsetRow_reserved200 x).decode_encode_rd
  | wrReserved200 x v => exact (offsetRow_reserved200 x).decode_encode_wr v
  | rdReserved100 x => exact (offsetRow_reserved100 x).decode_encode_rd
  | wrReserved100 x v => exact (offsetRow_reserved100 x).decode_encode_wr v
  | rdReserved0C0 x => exact (offsetRow_reserved0C0 x).decode_encode_rd
  | wrReserved0C0 x v => exact (offsetRow_reserved0C0 x).decode_encode_wr v
  | rdReserved0A0 x => exact (offsetRow_reserved0A0 x).decode_encode_rd
  | wrReserved0A0 x v => exact (offsetRow_reserved0A0 x).decode_encode_wr v
  | rdReserved090 x => exact (offsetRow_reserved090 x).decode_encode_rd
  | wrReserved090 x v => exact (offsetRow_reserved090 x).decode_encode_wr v
  | refusedEvt004 x => exact (refusedEventRow_004 x).decode_encode
  | refusedEvt008 x => exact (refusedEventRow_008 x).decode_encode
  | refusedEvt010 x => exact (refusedEventRow_010 x).decode_encode
  | refusedEvt020 x => exact (refusedEventRow_020 x).decode_encode
  | refusedEvt040 x => exact (refusedEventRow_040 x).decode_encode
  | refusedEvt080 x => exact (refusedEventRow_080 x).decode_encode
  | refusedEvt100 x => exact (refusedEventRow_100 x).decode_encode
  | refusedEvt200 x => exact (refusedEventRow_200 x).decode_encode
  | refusedEvt400 x => exact (refusedEventRow_400 x).decode_encode
  | refusedEvt800 x => exact (refusedEventRow_800 x).decode_encode
  | refusedCls11 x => exact decode_encode_refusedCls11 x
  | refusedZ01 cls off => exact decode_encode_refusedZ01 (bne_iff_ne.1 hwf) off
  | refusedZ1x cls z0 off => exact decode_encode_refusedZ1x (bne_iff_ne.1 hwf) off z0
  | rx d => exact (decode_event_desc 0 d (by decide)).trans rfl
  | wrId v | wrDecStat v | wrMbStat v | wrSnap0 v | wrSnap1 v | wrSnap2 v | wrSnap3 v | wrSnap4 v | wrSnap5 v
  | wrSnap6 v | wrSnap7 v | wrSnap8 v | wrSnap9 v | wrSnap10 v | wrSnap11 v | wrSnap12 v | wrSnap13 v
  | wrSnap14 v | wrStale v | wrArbIn v | wrArbCfg v | wrArbStep v | wrArbStat v | wrLight v | wrLightRgb v
  | wrLightPos v | wrTick v | wrLedCtrl v | wrLedStat v | wrLedT0h v | wrLedT1h v | wrLedTbit v | wrLedTrst v
  | wrIrqPend v | wrIrqEn v | wrReserved00C v =>
    exact (decode_write_desc v 0 (by decide)).trans rfl
  | _ => rfl

/-! ### Written-out rows and words (O4, O5) -/

/-- Settles O4: each of the thirteen rows answers the descriptor that the encoder gives it. -/
theorem refusedRowsStop : Obligations.RefusedRowsStop := by
  unfold Obligations.RefusedRowsStop
  exact ⟨fun _ _ => rfl, fun _ _ => rfl, fun _ _ => rfl, fun _ _ => rfl, fun _ _ => rfl, fun _ _ => rfl,
    fun _ _ => rfl, fun _ _ => rfl, fun _ _ => rfl, fun _ _ => rfl, fun _ _ => rfl, fun _ _ _ => rfl,
    fun _ _ _ _ => rfl⟩

/-- Settles O5: the class of each word, then its offset or event id looked up. -/
theorem sampleWordsDecode : Obligations.SampleWordsDecode := by
  unfold Obligations.SampleWordsDecode
  intro v d
  refine ⟨?_, ?_, ?_, ?_, ?_, ?_, ?_, ?_, ?_, ?_, ?_⟩
  · exact (decode_read_desc v d (by decide)).trans rfl
  · exact (decode_write_desc v d (by decide)).trans rfl
  · exact (decode_event_desc v d (by decide)).trans rfl
  · exact (decode_event_desc v d (by decide)).trans rfl
  · exact (decode_event_desc v d (by decide)).trans rfl
  · exact (decode_read_desc v d (by decide)).trans rfl
  · exact (decode_write_desc v d (by decide)).trans rfl
  · exact (decode_read_desc v d (by decide)).trans rfl
  · exact (decode_write_desc v d (by decide)).trans rfl
  · exact (decode_read_desc v d (by decide)).trans rfl
  · exact (decode_write_desc v d (by decide)).trans rfl

end Sys2Proof.Machine
end

section
/-! SUPPORT. The receiving half of the block, decoder, mailbox and snapshot (R26-R28, R47, R48): which operations touch
it, what they keep of it, and the checksum a record carries (R106, R125). -/

namespace Sys2Proof.Machine

/-! ### The operations that touch it (R101, R110) -/

/-- The decoder, the mailbox with its flags, and the snapshot. -/
structure Receiver where
  dstate : DState
  dcnt : Fin 32
  dbuf : Vector Byte 32
  mb : Vector Half 15
  fresh : Bool
  ovr : Bool
  snap : Vector Half 15

def State.receiver (s : State) : Receiver :=
  { dstate := s.dstate, dcnt := s.dcnt, dbuf := s.dbuf, mb := s.mb, fresh := s.fresh, ovr := s.ovr, snap := s.snap }

theorem receiver_eq_iff {s t : State} : t.receiver = s.receiver ↔
    t.dstate = s.dstate ∧ t.dcnt = s.dcnt ∧ t.dbuf = s.dbuf ∧ t.mb = s.mb ∧ t.fresh = s.fresh ∧ t.ovr = s.ovr ∧
      t.snap = s.snap :=
  Receiver.mk.injEq .. ▸ Iff.rfl

section
variable (s : State)

theorem State.arbStep_receiver : s.arbStep.receiver = s.receiver := by simp [State.receiver]

theorem State.writeLedCtrl_receiver_rss (v : Word) :
    (s.writeLedCtrl v).receiver = s.receiver ∧ (s.writeLedCtrl v).rss = s.rss := by
  rcases s.writeLedCtrl_cases v with ⟨_, h⟩ | ⟨_, h⟩ <;> rw [h]
  · exact ⟨rfl, rfl⟩
  · rcases ({ s with pixsrc := v.getLsbD 1 } : State).refreshRequest_cases with ⟨_, e⟩ | ⟨_, _, e⟩ | ⟨_, _, e⟩ <;>
      rw [e] <;> exact ⟨rfl, rfl⟩

theorem State.writePixelSlot_receiver_rss (i : BitVec 8) (v : Word) :
    (s.writePixelSlot i v).receiver = s.receiver ∧ (s.writePixelSlot i v).rss = s.rss := by
  rcases s.writePixelSlot_cases i v with ⟨_, h⟩ | ⟨_, _, h⟩ | ⟨_, _, h⟩ <;> rw [h] <;> exact ⟨rfl, rfl⟩

theorem State.clkOnce_receiver_rss : s.clkOnce.receiver = s.receiver ∧ s.clkOnce.rss = s.rss := by
  rcases s.clkOnce_cases with ⟨_, h⟩ | ⟨_, _, h⟩ | ⟨_, _, h⟩ <;> rw [h] <;> exact ⟨rfl, rfl⟩

/-- R204-R210: a timing write is dropped while BUSY; its store is t. -/
theorem State.dropWrite_or_receiver_rss {t : State} (h : t.receiver = s.receiver ∧ t.rss = s.rss) :
    (if s.lbusy then s.dropWrite else t).receiver = s.receiver ∧ (if s.lbusy then s.dropWrite else t).rss = s.rss := by
  cases s.lbusy
  · exact h
  · exact ⟨rfl, rfl⟩

end

/-- Everything an operation can do to the decoder, the mailbox, the snapshot and RSS. -/
theorem exec_receiver_cases {i : Instr} {s t : State} (h : exec i s = .next t) :
    (t.receiver = s.receiver ∧ (t.rss = s.rss ∨ ∃ v, i = .wrArbStep v)) ∨
    (i = .rdMbStat ∧ t = (s.returns (mbStatWord s.ovr s.fresh)).takeRecord) ∨
    (∃ d, i = .rx d ∧ t = s.rxByte d) ∨
    (i = .reset ∧ t = s.resetBlock) := by
  rcases exec_next_cases h with ⟨_, _, rfl⟩ | ⟨_, rfl⟩ | hmb | hrx | ⟨_, _, rfl⟩ | ⟨_, _, rfl⟩ | ⟨v, hi, rfl⟩ |
    ⟨_, rfl⟩ | ⟨v, _, rfl⟩ | ⟨_, _, rfl⟩ | ⟨_, _, rfl⟩ | ⟨_, _, rfl⟩ | ⟨_, _, rfl⟩ | ⟨_, _, rfl⟩ | ⟨n, v, _, rfl⟩ |
    ⟨_, _, rfl⟩ | ⟨_, _, rfl⟩ | ⟨_, rfl⟩ | hreset
  · exact .inl ⟨rfl, .inl rfl⟩
  · exact .inl ⟨rfl, .inl rfl⟩
  · exact .inr (.inl hmb)
  · exact .inr (.inr (.inl hrx))
  · exact .inl ⟨rfl, .inl rfl⟩
  · exact .inl ⟨rfl, .inl rfl⟩
  · exact .inl ⟨s.arbStep_receiver, .inr ⟨v, hi⟩⟩
  · exact .inl ⟨rfl, .inl rfl⟩
  · exact .inl (.imp_right .inl (s.writeLedCtrl_receiver_rss v))
  · exact .inl ⟨rfl, .inl rfl⟩
  · exact .inl (.imp_right .inl (s.dropWrite_or_receiver_rss ⟨rfl, rfl⟩))
  · exact .inl (.imp_right .inl (s.dropWrite_or_receiver_rss ⟨rfl, rfl⟩))
  · exact .inl (.imp_right .inl (s.dropWrite_or_receiver_rss ⟨rfl, rfl⟩))
  · exact .inl (.imp_right .inl (s.dropWrite_or_receiver_rss ⟨rfl, rfl⟩))
  · exact .inl (.imp_right .inl (s.writePixelSlot_receiver_rss n v))
  · exact .inl ⟨rfl, .inl rfl⟩
  · exact .inl ⟨rfl, .inl rfl⟩
  · exact .inl (.imp_right .inl s.clkOnce_receiver_rss)
  · exact .inr (.inr (.inr hreset))

/-! ### The record a frame carries (R106, R107, R125) -/

section
variable (b : Vector Byte 32)

theorem frameRecord_getElem {n : Nat} (h : n < 15) : (frameRecord b)[n] = frameWord b ⟨n, h⟩ :=
  Vector.getElem_ofFn h

/-- R66, R107: a mailbox word as a number. -/
theorem frameRecord_toNat {n : Nat} (h : n < 15) :
    (frameRecord b)[n].toNat = 256 * b[2 + 2 * n].toNat + b[3 + 2 * n].toNat := by
  rw [frameRecord_getElem, frameWord, bigEndian_toNat]

theorem byteSum_bigEndian (hi lo : Byte) : byteSum (bigEndian hi lo) = hi.toNat + lo.toNat := by
  have := hi.isLt
  have := lo.isLt
  rw [byteSum, extract_toNat, extract_toNat, bigEndian_toNat]
  omega

/-- R106: thirty bytes never overflow the 16-bit sum. -/
theorem frameByteSum_lt : ∑ j : Fin 30, b[j.val].toNat < 65536 := by
  have hle : ∑ j : Fin 30, b[j.val].toNat ≤ ∑ _j : Fin 30, 255 :=
    Finset.sum_le_sum fun j _ => Nat.le_of_lt_succ b[j.val].isLt
  exact hle.trans_lt (by decide)

/-- R106 without the modulus. -/
theorem checksumOk_iff_sum :
    checksumOk b = true ↔ ∑ j : Fin 30, b[j.val].toNat = 256 * b[30].toNat + b[31].toNat := by
  rw [checksumOk_iff, Nat.mod_eq_of_lt (frameByteSum_lt b)]

/-- R106, R107: the thirty summed bytes are the two sync bytes and those of words 0 to 13. -/
theorem frameByteSum_eq_words : ∑ j : Fin 30, b[j.val].toNat =
    b[0].toNat + b[1].toNat + (((frameRecord b).toList.take 14).map byteSum).sum := by
  have hwords : ((frameRecord b).toList.take 14).map byteSum =
      List.ofFn fun k : Fin 14 => b[2 + 2 * k.val].toNat + b[3 + 2 * k.val].toNat := by
    apply List.ext_getElem
    · simp
    · intro n _ _
      rw [List.getElem_map, List.getElem_take, List.getElem_ofFn, Vector.getElem_toList, frameRecord_getElem,
        frameWord, byteSum_bigEndian]
  rw [hwords, List.sum_ofFn]
  simp only [Fin.sum_univ_ofNat, ← Nat.add_assoc]
  rfl

end

/-- R125: the words of a valid frame form a record whose last word is its checksum. -/
theorem frameRecord_recordOk {b : Vector Byte 32} (h0 : b[0] = 0x42#8) (h1 : b[1] = 0x4D#8)
    (hc : checksumOk b = true) : RecordOk (frameRecord b) := by
  have hsum := (checksumOk_iff_sum b).1 hc
  rw [frameByteSum_eq_words, h0, h1] at hsum
  exact (frameRecord_toNat b (n := 14) (by decide)).trans hsum.symm

/-! ### The invariant of the records (R125) -/

/-- RecordInv reads nothing but the receiving half. -/
theorem RecordInv.of_receiver_eq {s t : State} (h : RecordInv s) (he : t.receiver = s.receiver) : RecordInv t := by
  obtain ⟨hstate, hcnt, hbuf, hmb, hfresh, _, hsnap⟩ := receiver_eq_iff.1 he
  obtain ⟨hdec, hsnapOk, hmbOk⟩ := h
  constructor
  · rwa [DecoderInv, hstate, hcnt, hbuf]
  · rwa [hsnap]
  · rwa [hmb, hfresh]

section
variable {s : State}

/-- R110: a fresh mailbox holds a record, so what the snapshot takes is one. -/
theorem RecordInv.takeRecord (h : RecordInv s) : RecordInv s.takeRecord := by
  rcases s.takeRecord_cases with ⟨hf, e⟩ | ⟨_, e⟩ <;> rw [e]
  · have hrecord : RecordOk s.mb := h.mailbox.resolve_right fun hnone => by simp [hf] at hnone
    exact { decoder := h.decoder, snapshot := .inl hrecord, mailbox := .inl hrecord }
  · exact h

/-- R106, R107: the only record RX stores is that of a buffer with both sync bytes and a right checksum. -/
theorem RecordInv.rxByte (h : RecordInv s) (d : Byte) : RecordInv (s.rxByte d) := by
  have hdec := s.rxByte_decoderInv h.decoder d
  rcases s.rxByte_cases d with ⟨_, _, e⟩ | ⟨_, _, e⟩ | ⟨_, _, e⟩ | ⟨_, _, e⟩ | ⟨_, _, e⟩ | ⟨hs, _, hc, e⟩ |
    ⟨_, _, _, e⟩ <;> rw [e] at hdec ⊢
  · exact { h with decoder := hdec }
  · exact h
  · exact { h with decoder := hdec }
  · exact { h with decoder := hdec }
  · exact { h with decoder := hdec }
  · obtain ⟨_, _, hcollecting⟩ := h.decoder
    obtain ⟨_, h0, h1⟩ := hcollecting hs
    have hrecord : RecordOk (frameRecord (s.dbuf.set 31 d)) :=
      frameRecord_recordOk (by simpa using h0) (by simpa using h1) hc
    rw [State.publish_eq] at hdec ⊢
    exact { decoder := hdec, snapshot := h.snapshot, mailbox := .inl hrecord }
  · exact { h with decoder := hdec }

end

theorem exec_recordInv {i : Instr} {s t : State} (h : RecordInv s) (he : exec i s = .next t) : RecordInv t := by
  rcases exec_receiver_cases he with ⟨hsame, _⟩ | ⟨_, rfl⟩ | ⟨d, _, rfl⟩ | ⟨_, rfl⟩
  · exact h.of_receiver_eq hsame
  · exact RecordInv.takeRecord (h.of_receiver_eq rfl)
  · exact h.rxByte d
  · exact (State.resetOf_recordInv s.cfg s.draws).of_receiver_eq rfl

/-- Settles O10: an idle step keeps the state, and the start of an operation leaves the receiving half alone. -/
theorem stepKeepsRecordChecksums : Obligations.StepKeepsRecordChecksums := by
  unfold Obligations.StepKeepsRecordChecksums
  intro s t h hstep
  rcases step_next_cases hstep with ⟨_, rfl⟩ | ⟨op, rest, _, he⟩
  · exact h
  · exact exec_recordInv (h.of_receiver_eq (t := s.startOp rest) rfl) he

/-! ### Its few writers (R48, R49, R101) -/

theorem State.publish_snap (s : State) : s.publish.snap = s.snap := by rw [State.publish_eq]

/-- R101: RX touches no snapshot. -/
theorem State.rxByte_snap (s : State) (d : Byte) : (s.rxByte d).snap = s.snap := by
  rcases s.rxByte_cases d with ⟨_, _, h⟩ | ⟨_, _, h⟩ | ⟨_, _, h⟩ | ⟨_, _, h⟩ | ⟨_, _, h⟩ | ⟨_, _, _, h⟩ |
    ⟨_, _, _, h⟩ <;> rw [h]
  · rfl
  · rfl
  · rfl
  · rfl
  · exact (s.bufferByte 31 d).publish_snap
  · rfl

/-- R110: taking a record touches nothing but the snapshot and the flags, and nothing at all without FRESH. -/
theorem State.takeRecord_frame (s : State) :
    (s.takeRecord.dstate = s.dstate ∧ s.takeRecord.dcnt = s.dcnt ∧ s.takeRecord.dbuf = s.dbuf ∧
      s.takeRecord.mb = s.mb) ∧
    s.takeRecord.rss = s.rss ∧ (s.takeRecord.snap ≠ s.snap → s.fresh = true) := by
  rcases s.takeRecord_cases with ⟨hf, h⟩ | ⟨_, h⟩ <;> rw [h]
  · exact ⟨⟨rfl, rfl, rfl, rfl⟩, rfl, fun _ => hf⟩
  · exact ⟨⟨rfl, rfl, rfl, rfl⟩, rfl, fun hne => absurd rfl hne⟩

/-- Settles O32: outside RX and the MB_STAT read the receiving half stays whole, and RSS too outside STEP. -/
theorem decoderStateChangesOnlyOnRx : Obligations.DecoderStateChangesOnlyOnRx := by
  unfold Obligations.DecoderStateChangesOnlyOnRx
  intro i s t he hreset
  rcases exec_receiver_cases he with ⟨hsame, hrss⟩ | ⟨hi, rfl⟩ | ⟨d, hi, rfl⟩ | ⟨hi, _⟩
  · obtain ⟨hstate, hcnt, hbuf, hmb, hfresh, hovr, hsnap⟩ := receiver_eq_iff.1 hsame
    exact ⟨fun _ => ⟨hstate, hcnt, hbuf, hmb⟩, fun hne => absurd hfresh (hne.resolve_right fun h => h hovr),
      fun hne => .inl (hrss.resolve_left hne), fun hne => absurd hsnap hne⟩
  · obtain ⟨hkept, hrss, hsnap⟩ := (s.returns (mbStatWord s.ovr s.fresh)).takeRecord_frame
    exact ⟨fun _ => hkept, fun _ => .inl hi, fun hne => absurd hrss hne, fun hne => ⟨hi, hsnap hne⟩⟩
  · exact ⟨fun hne => absurd hi (hne d), fun _ => .inr ⟨d, hi⟩, fun _ => .inr ⟨d, hi⟩,
      fun hne => absurd (s.rxByte_snap d) hne⟩
  · exact absurd hi hreset

end Sys2Proof.Machine
end

section
/-! SUPPORT. The frame decoder byte by byte (R101-R109): one equation for each row of R101's table, a whole frame from
its first byte to the MB_STAT read that takes it, and a stream with no frame in it. -/

namespace Sys2Proof.Machine

/-! ### One received byte (R103-R108) -/

section
variable {s : State} {d : Byte}

theorem State.rxByte_firstSync (hs : s.dstate = .awaitSync1) :
    s.rxByte 0x42#8 = { s with dbuf := s.dbuf.set 0 0x42#8, dcnt := 1, dstate := .awaitSync2 } := by
  rw [State.rxByte, hs]
  exact if_pos rfl

theorem State.rxByte_noFirstSync (hs : s.dstate = .awaitSync1) (hd : d ≠ 0x42#8) : s.rxByte d = s := by
  rw [State.rxByte, hs]
  exact if_neg hd

theorem State.rxByte_secondSync (hs : s.dstate = .awaitSync2) :
    s.rxByte 0x4D#8 = { s with dbuf := s.dbuf.set 1 0x4D#8, dcnt := 2, dstate := .collecting } := by
  rw [State.rxByte, hs]
  exact if_pos rfl

theorem State.rxByte_noSecondSync (hs : s.dstate = .awaitSync2) (hd : d ≠ 0x4D#8) :
    s.rxByte d = { s with dcnt := 0, dstate := .awaitSync1, conds := s.conds ++ [.syncLost] } := by
  rw [State.rxByte, hs]
  exact if_neg hd

theorem State.rxByte_append (hs : s.dstate = .collecting) (hn : s.dcnt ≠ 31) :
    s.rxByte d = { s with dbuf := s.dbuf.set s.dcnt.val d, dcnt := s.dcnt + 1 } := by
  simp [State.rxByte, State.rxCollect, State.bufferByte, State.decoderTo, hs, hn]

theorem State.rxByte_publish (hs : s.dstate = .collecting) (hn : s.dcnt = 31)
    (hc : checksumOk (s.dbuf.set 31 d) = true) :
    s.rxByte d = { s with
      dbuf := s.dbuf.set 31 d, dstate := .awaitSync1, dcnt := 0, mb := frameRecord (s.dbuf.set 31 d), fresh := true,
      ovr := s.ovr || s.fresh, rss := true, irqPend := s.irqPend ||| irqRec,
      conds := s.conds ++ (if s.fresh then [.recordOverwrite] else []) } := by
  simp [State.rxByte, State.rxCollect, State.publish_eq, State.bufferByte, State.decoderTo, hs, hn, hc]

theorem State.rxByte_discard (hs : s.dstate = .collecting) (hn : s.dcnt = 31)
    (hc : checksumOk (s.dbuf.set 31 d) = false) :
    s.rxByte d = { s with
      dbuf := s.dbuf.set 31 d, dstate := .awaitSync1, dcnt := 0, conds := s.conds ++ [.checksumFail] } := by
  simp [State.rxByte, State.rxCollect, State.discard_eq, State.bufferByte, State.decoderTo, hs, hn, hc]

end

theorem exec_rx (d : Byte) (s : State) : exec (.rx d) s = .next (s.rxByte d) := rfl

/-- Settles O21: the two rows of AwaitSync1. -/
theorem rxAwaitingFirstSync : Obligations.RxAwaitingFirstSync := by
  unfold Obligations.RxAwaitingFirstSync
  intro s d hs
  constructor
  · rintro rfl
    rw [exec_rx, State.rxByte_firstSync hs]
  · intro hd
    rw [exec_rx, State.rxByte_noFirstSync hs hd]

/-- Settles O22: the two rows of AwaitSync2. -/
theorem rxAwaitingSecondSync : Obligations.RxAwaitingSecondSync := by
  unfold Obligations.RxAwaitingSecondSync
  intro s d hs
  constructor
  · rintro rfl
    rw [exec_rx, State.rxByte_secondSync hs]
  · intro hd
    rw [exec_rx, State.rxByte_noSecondSync hs hd]

/-- Settles O23: the count has room to grow, and the write is at its own index. -/
theorem rxCollectingAppends : Obligations.RxCollectingAppends := by
  unfold Obligations.RxCollectingAppends
  intro s d hs hn
  have hne : s.dcnt ≠ 31 := Fin.ne_of_lt hn
  refine ⟨_, exec_rx d s, ?_⟩
  rw [State.rxByte_append hs hne]
  refine ⟨rfl, Fin.val_add_one_of_lt hn, fun j => ?_⟩
  simp only [Fin.getElem_fin, Vector.getElem_set, Fin.val_inj, eq_comm]

/-- Settles O24: word 14 is the checksum, and the words before it do not involve the last byte. -/
theorem lastByteOfValidFramePublishes : Obligations.LastByteOfValidFramePublishes := by
  unfold Obligations.LastByteOfValidFramePublishes
  intro s d hs hn hsum
  have hc : checksumOk (s.dbuf.set 31 d) = true := (checksumOk_set_iff s.dbuf d).2 hsum
  refine ⟨_, exec_rx d s, ?_⟩
  rw [State.rxByte_publish hs hn hc]
  refine ⟨rfl, fun k => ?_, ?_⟩
  · rw [frameRecord_toNat _ (by omega), Vector.getElem_set_ne _ _ (by omega), Vector.getElem_set_ne _ _ (by omega)]
  · rw [frameRecord_toNat _ (by decide), Vector.getElem_set_ne _ _ (by decide), Vector.getElem_set_self]

/-- Settles O25: the sum does not involve the last byte, so the completed buffer fails its checksum. -/
theorem lastByteOfBadFrameDiscards : Obligations.LastByteOfBadFrameDiscards := by
  unfold Obligations.LastByteOfBadFrameDiscards
  intro s d hs hn hsum
  have hc : checksumOk (s.dbuf.set 31 d) = false :=
    Bool.eq_false_iff.2 fun h => hsum ((checksumOk_set_iff s.dbuf d).1 h)
  rw [exec_rx, State.rxByte_discard hs hn hc]

/-! ### The reads of the mailbox, the snapshot and the status (R110-R127) -/

/-- R110: with FRESH = 1 an MB_STAT read takes the record. -/
theorem exec_rdMbStat_of_fresh {s : State} (h : s.fresh = true) : exec .rdMbStat s =
    .next { s with out := .readData (mbStatWord s.ovr s.fresh), snap := s.mb, fresh := false, ovr := false } := by
  rcases (s.returns (mbStatWord s.ovr s.fresh)).takeRecord_cases with ⟨_, e⟩ | ⟨hf, _⟩
  · exact congrArg Host.Outcome.next e
  · exact absurd (h.symm.trans hf) nofun

theorem mbStatWord_freshBit (ovr fresh : Bool) : (mbStatWord ovr fresh).getLsbD 0 = fresh := by
  cases ovr <;> cases fresh <;> decide

/-- Settles O26: under Inv a mailbox without a fresh record has OVR = 0 too. -/
theorem mailboxReadTakesFreshRecord : Obligations.MailboxReadTakesFreshRecord := by
  unfold Obligations.MailboxReadTakesFreshRecord
  intro s
  refine ⟨rfl, mbStatWord s.ovr s.fresh, mbStatWord_toNat _ _, exec_rdMbStat_of_not_fresh, exec_rdMbStat_of_fresh,
    fun hinv hf => ?_⟩
  have hovr : s.ovr = false := Bool.eq_false_iff.2 fun h => absurd ((hinv.mailbox h).symm.trans hf) nofun
  rw [hovr, hf]
  decide

/-- R111-R125: what every read of a snapshot word returns. -/
theorem returns_snapWord {i : Instr} {s : State} {k : Fin 15} (h : exec i s = .next (s.readSnap k)) :
    ∃ w : Word, exec i s = .next { s with out := .readData w } ∧ w.toNat = s.snap[k].toNat :=
  ⟨halfWord s.snap[k], h, halfWord_toNat _⟩

/-- Settles O27: every one of these reads returns its snapshot word. -/
theorem snapshotReadsLowHalf : Obligations.SnapshotReadsLowHalf := by
  unfold Obligations.SnapshotReadsLowHalf
  intro s
  simp only [List.forall_mem_cons]
  refine ⟨?_, ?_, ?_, ?_, ?_, ?_, ?_, ?_, List.forall_mem_nil _⟩ <;> exact ⟨rfl, returns_snapWord rfl⟩

/-- Settles O28: every one of these reads returns its snapshot word. -/
theorem snapshotReadsHighHalf : Obligations.SnapshotReadsHighHalf := by
  unfold Obligations.SnapshotReadsHighHalf
  intro s
  simp only [List.forall_mem_cons]
  refine ⟨?_, ?_, ?_, ?_, ?_, ?_, ?_, List.forall_mem_nil _⟩ <;> exact ⟨rfl, returns_snapWord rfl⟩

/-- Settles O29: the assembled words as numbers, DSTATE by its code. -/
theorem decoderAndStalenessStatusReads : Obligations.DecoderAndStalenessStatusReads := by
  unfold Obligations.DecoderAndStalenessStatusReads
  intro s
  have hdec := decStatWord_toNat s.dstate s.dcnt
  refine ⟨rfl, rfl, ⟨decStatWord s.dstate s.dcnt, rfl, fun hs => ?_, fun hs => ?_, fun hs => ?_⟩,
    staleWord s.rss s.stale s.scnt, rfl, staleWord_toNat _ _ _⟩
  · rw [hdec, hs]; rfl
  · rw [hdec, hs]; rfl
  · rw [hdec, hs]; rfl

/-! ### A whole frame (R66, R101-R110) -/

section
variable {s : State} {f : Vector Byte 32}

theorem runInstrs_rx_concat {l : List Byte} {d : Byte} {t : State} (h : runInstrs (l.map .rx) s = .next t) :
    runInstrs ((l ++ [d]).map .rx) s = .next (t.rxByte d) := by
  rw [List.map_append, runInstrs_append h]
  rfl

theorem take_two_of_sync (h0 : f[0] = 0x42#8) (h1 : f[1] = 0x4D#8) : f.toList.take 2 = [0x42#8, 0x4D#8] := by
  rw [List.take_succ_eq_append_getElem (by simp), List.take_succ_eq_append_getElem (by simp)]
  simp [h0, h1]

/-- R103, R104: the two sync bytes lead from AwaitSync1 to Collecting. -/
theorem runInstrs_rx_sync_pair (hs : s.dstate = .awaitSync1) : runInstrs ([0x42#8, 0x4D#8].map .rx) s =
    .next { s with dbuf := (s.dbuf.set 0 0x42#8).set 1 0x4D#8, dcnt := 2, dstate := .collecting } := by
  rw [List.map_cons, runInstrs_cons (exec_rx _ s), State.rxByte_firstSync hs, List.map_cons,
    runInstrs_cons (exec_rx _ _), State.rxByte_secondSync rfl]
  rfl

/-- R101-R105: with k bytes of a frame received, past its sync bytes, the buffer agrees with the frame so far, and
nothing but the decoder has changed. -/
theorem runInstrs_rx_collects (hs : s.dstate = .awaitSync1) (h0 : f[0] = 0x42#8) (h1 : f[1] = 0x4D#8)
    {k : Nat} (hmin : 2 ≤ k) (hmax : k < 32) : ∃ b : Vector Byte 32,
      runInstrs ((f.toList.take k).map .rx) s =
        .next { s with dbuf := b, dcnt := ⟨k, hmax⟩, dstate := .collecting } ∧
      ∀ j (_ : j < k), b[j] = f[j] := by
  induction k, hmin using Nat.le_induction with
  | base =>
    refine ⟨(s.dbuf.set 0 0x42#8).set 1 0x4D#8, ?_, fun j hj => ?_⟩
    · rw [take_two_of_sync h0 h1, runInstrs_rx_sync_pair hs]
      rfl
    · have hj01 : j = 0 ∨ j = 1 := by omega
      rcases hj01 with rfl | rfl <;> simp [h0, h1]
  | succ k hk ih =>
    obtain ⟨b, hrun, hb⟩ := ih (by omega)
    have hroom : (⟨k, by omega⟩ : Fin 32) < Fin.last 31 := Nat.lt_of_succ_lt_succ hmax
    have hnext : (⟨k, by omega⟩ : Fin 32) + 1 = ⟨k + 1, hmax⟩ := Fin.ext (Fin.val_add_one_of_lt hroom)
    refine ⟨b.set k f[k], ?_, fun j hj => ?_⟩
    · rw [List.take_succ_eq_append_getElem (by rw [Vector.length_toList]; omega), runInstrs_rx_concat hrun,
        State.rxByte_append rfl (Fin.ne_of_lt hroom), Vector.getElem_toList]
      simp only [hnext]
    · rw [Vector.getElem_set]
      split
      next h => subst h; rfl
      next h => exact hb j (by omega)

/-- R101-R107: everything a valid frame does to a decoder that waits for a first sync byte. -/
theorem runInstrs_rx_valid_frame (hs : s.dstate = .awaitSync1) (h0 : f[0] = 0x42#8) (h1 : f[1] = 0x4D#8)
    (hc : checksumOk f = true) : runInstrs (f.toList.map .rx) s = .next { s with
      dbuf := f, dstate := .awaitSync1, dcnt := 0, mb := frameRecord f, fresh := true, ovr := s.ovr || s.fresh,
      rss := true, irqPend := s.irqPend ||| irqRec,
      conds := s.conds ++ (if s.fresh then [.recordOverwrite] else []) } := by
  obtain ⟨b, hrun, hb⟩ := runInstrs_rx_collects hs h0 h1 (k := 31) (by decide) (by decide)
  have hlist : f.toList = f.toList.take 31 ++ [f[31]] := by
    have htake := List.take_succ_eq_append_getElem (l := f.toList) (i := 31) (by simp)
    rwa [List.take_of_length_le (by simp), Vector.getElem_toList] at htake
  have hfull : b.set 31 f[31] = f := by
    ext j hj
    rw [Vector.getElem_set]
    split
    next h => subst h; rfl
    next h => rw [hb j (by omega)]
  rw [hlist, runInstrs_rx_concat hrun, State.rxByte_publish rfl rfl (by rwa [hfull]), hfull]

end

/-- Settles O30: the last byte completes the buffer to the frame, and the read takes the record made of it. -/
theorem validFrameIsDelivered : Obligations.ValidFrameIsDelivered := by
  unfold Obligations.ValidFrameIsDelivered
  intro s f hs h0 h1 hsum
  have hrun := runInstrs_rx_valid_frame hs h0 h1 ((checksumOk_iff_sum f).2 hsum)
  refine ⟨_, hrun, rfl, rfl, rfl, rfl, ?_, rfl, rfl, _, _, exec_rdMbStat_of_fresh rfl, rfl, ?_, rfl,
    fun k => frameRecord_toNat f k.isLt⟩
  · simp [irqRec]
  · exact mbStatWord_freshBit _ true

/-! ### A stream with no frame in it (C6, R101, R104; log entry 14) -/

/-- t has the mailbox, its flags, RSS and the pending interrupts of s: nothing was published between them. -/
def State.NothingPublished (s t : State) : Prop :=
  t.mb = s.mb ∧ t.fresh = s.fresh ∧ t.ovr = s.ovr ∧ t.rss = s.rss ∧ t.irqPend = s.irqPend

/-- The decoder waits for a sync byte, and d does not complete the pair. -/
def State.WaitsPast (s : State) (d : Byte) : Prop :=
  s.dstate = .awaitSync1 ∨ (s.dstate = .awaitSync2 ∧ d ≠ 0x4D#8)

theorem State.NothingPublished.trans {s t u : State} (h : s.NothingPublished t) (h' : t.NothingPublished u) :
    s.NothingPublished u := by
  obtain ⟨hmb, hfresh, hovr, hrss, hirq⟩ := h
  obtain ⟨hmb', hfresh', hovr', hrss', hirq'⟩ := h'
  exact ⟨hmb'.trans hmb, hfresh'.trans hfresh, hovr'.trans hovr, hrss'.trans hrss, hirq'.trans hirq⟩

/-- R103, R104: short of a sync pair, a byte starts a frame exactly when it is 0x42 and none was started. -/
theorem State.rxByte_of_waitsPast {s : State} {d : Byte} (h : s.WaitsPast d) :
    s.NothingPublished (s.rxByte d) ∧
      (s.rxByte d).dstate = if s.dstate = .awaitSync1 ∧ d = 0x42#8 then .awaitSync2 else .awaitSync1 := by
  rcases h with hs | ⟨hs, hd⟩
  · by_cases hd : d = 0x42#8
    · subst hd
      rw [State.rxByte_firstSync hs, if_pos ⟨hs, rfl⟩]
      exact ⟨⟨rfl, rfl, rfl, rfl, rfl⟩, rfl⟩
    · rw [State.rxByte_noFirstSync hs hd, if_neg fun hboth => hd hboth.2]
      exact ⟨⟨rfl, rfl, rfl, rfl, rfl⟩, hs⟩
  · rw [State.rxByte_noSecondSync hs hd, if_neg fun hboth => absurd (hs.symm.trans hboth.1) (by decide)]
    exact ⟨⟨rfl, rfl, rfl, rfl, rfl⟩, rfl⟩

/-- How many 0x42 bytes a stream ends in. -/
def trailingSyncs (l : List Byte) : Nat := (l.reverse.takeWhile (· == 0x42#8)).length

theorem trailingSyncs_concat (l : List Byte) (d : Byte) :
    trailingSyncs (l ++ [d]) = if d = 0x42#8 then trailingSyncs l + 1 else 0 := by
  rw [trailingSyncs, List.reverse_concat, List.takeWhile_cons]
  by_cases hd : d = 0x42#8 <;> simp [hd, trailingSyncs]

/-- 0x42 is never followed by 0x4D. -/
def NoSyncPair (l : List Byte) : Prop := ∀ n, l[n]? = some 0x42#8 → l[n + 1]? ≠ some 0x4D#8

theorem NoSyncPair.of_append {l m : List Byte} (h : NoSyncPair (l ++ m)) : NoSyncPair l := by
  intro n hn hn'
  have hlt : n + 1 < l.length := (List.getElem?_eq_some_iff.1 hn').1
  refine h n ?_ ?_
  · rw [List.getElem?_append_left (by omega), hn]
  · rw [List.getElem?_append_left hlt, hn']

theorem NoSyncPair.trailingSyncs_eq_zero {l : List Byte} (h : NoSyncPair (l ++ [0x4D#8])) : trailingSyncs l = 0 := by
  rcases l.eq_nil_or_concat' with rfl | ⟨m, d, rfl⟩
  · rfl
  · have hd : d ≠ 0x42#8 := by
      rintro rfl
      exact h m.length (by simp) (by simp)
    rw [trailingSyncs_concat, if_neg hd]

/-- C6: after a stream without a sync pair, the parity of its trailing 0x42 bytes says which sync byte is awaited. -/
theorem runInstrs_rx_of_noSyncPair {s : State} (hs : s.dstate = .awaitSync1) (l : List Byte) (hl : NoSyncPair l) :
    ∃ t, runInstrs (l.map .rx) s = .next t ∧ s.NothingPublished t ∧
      t.dstate = if trailingSyncs l % 2 = 1 then .awaitSync2 else .awaitSync1 := by
  induction l using List.reverseRecOn with
  | nil => exact ⟨s, rfl, ⟨rfl, rfl, rfl, rfl, rfl⟩, hs⟩
  | append_singleton l d ih =>
    obtain ⟨t, hrun, hkept, hstate⟩ := ih hl.of_append
    have hwaits : t.WaitsPast d := by
      by_cases hodd : trailingSyncs l % 2 = 1
      · refine .inr ⟨hstate.trans (if_pos hodd), ?_⟩
        rintro rfl
        rw [hl.trailingSyncs_eq_zero] at hodd
        omega
      · exact .inl (hstate.trans (if_neg hodd))
    obtain ⟨hkept', hstate'⟩ := State.rxByte_of_waitsPast hwaits
    refine ⟨t.rxByte d, runInstrs_rx_concat hrun, hkept.trans hkept', hstate'.trans ?_⟩
    rw [trailingSyncs_concat, hstate]
    by_cases hd : d = 0x42#8
    · by_cases hodd : trailingSyncs l % 2 = 1
      · rw [if_neg (by simp [hodd]), if_pos hd, if_neg (by omega)]
      · rw [if_pos (by simp [hodd, hd]), if_pos hd, if_pos (by omega)]
    · rw [if_neg fun hboth => hd hboth.2, if_neg hd, if_neg (by decide)]

/-- Settles O31: the induction over the stream, with its facts taken apart. -/
theorem streamWithoutSyncPairPublishesNothing : Obligations.StreamWithoutSyncPairPublishesNothing := by
  unfold Obligations.StreamWithoutSyncPairPublishesNothing
  intro s l hs hl
  obtain ⟨t, hrun, ⟨hmb, hfresh, hovr, hrss, hirq⟩, hstate⟩ := runInstrs_rx_of_noSyncPair hs l hl
  exact ⟨t, hrun, hmb, hfresh, hovr, hrss, hirq, hstate⟩

end Sys2Proof.Machine
end

section
/-! SUPPORT. The staleness timer over a run of STEPs with no record between them (R128, R155). -/

namespace Sys2Proof.Machine

/-- R128: the timer after n STEPs: saturating count, comparison and interrupt. -/
theorem State.iterate_arbStep_staleness {s : State} (hcmp : s.cfg.staleCmp = .ge) (hcnt : s.scnt = 0)
    (hrss : s.rss = false) (hstale : s.stale = false) (n : Nat) :
    (State.arbStep^[n] s).cfg = s.cfg ∧ (State.arbStep^[n] s).rss = false ∧
      (State.arbStep^[n] s).scnt.toNat = min n 255 ∧ (State.arbStep^[n] s).stale = decide (30 ≤ n) ∧
      (State.arbStep^[n] s).irqPend = if 30 ≤ n then s.irqPend ||| irqStale else s.irqPend := by
  induction n with
  | zero => exact ⟨rfl, hrss, by simp [hcnt], hstale, rfl⟩
  | succ n ih =>
    obtain ⟨icfg, irss, icnt, istale, iirq⟩ := ih
    rw [Function.iterate_succ_apply']
    set t := State.arbStep^[n] s
    have hscnt : (nextScnt t.rss t.scnt).toNat = min (n + 1) 255 := by
      rw [nextScnt_toNat, irss, icnt, if_neg Bool.false_ne_true]
      omega
    have hflag : staleFlag t.cfg.staleCmp (nextScnt t.rss t.scnt) = decide (30 ≤ n + 1) := by
      rw [icfg, hcmp, staleFlag, hscnt, decide_eq_decide]
      omega
    refine ⟨by rw [State.arbStep_cfg, icfg], State.arbStep_rss t, by rw [State.arbStep_scnt, hscnt],
      by rw [State.arbStep_stale, hflag], ?_⟩
    rw [State.arbStep_irqPend, hflag, istale, iirq]
    simp only [decide_eq_false_iff_not, decide_eq_true_iff]
    by_cases hafter : 30 ≤ n
    · rw [if_neg (by omega), if_pos hafter, if_pos (by omega)]
    · by_cases hrise : n = 29
      · rw [if_pos (by omega), if_neg hafter, if_pos (by omega)]
      · rw [if_neg (by omega), if_neg hafter, if_neg (by omega)]

/-- Settles O42: n STEP writes are n STEPs, whatever the write data. -/
theorem stalenessRisesAtThirtiethStep : Obligations.StalenessRisesAtThirtiethStep := by
  unfold Obligations.StalenessRisesAtThirtiethStep
  intro s n hcmp hcnt hrss hstale
  obtain ⟨_, _, hscnt, hflag, hirq⟩ := State.iterate_arbStep_staleness hcmp hcnt hrss hstale n
  refine ⟨_, runInstrs_replicate (fun _ => rfl) n s, hscnt, ?_, hirq⟩
  rw [hflag, decide_eq_true_iff]

end Sys2Proof.Machine
end

section
/-! SUPPORT. One STEP (R128, R145-R156): the staleness stage and its interrupt, the status and cause, the sounding
budget, the fault code and the light. Each part is a lemma on the pure function of its rule and one on the state a STEP
leaves. -/

namespace Sys2Proof.Machine

/-! ### The staleness stage and its interrupt (R128, R155) -/

/-- D8: STALE_CMP at `>=`. -/
theorem staleFlag_ge_iff (scnt : Byte) : staleFlag .ge scnt = true ↔ 30 ≤ scnt.toNat := decide_eq_true_iff

section
variable {s : State}

theorem State.arbStep_stale_iff_of_ge (h : s.cfg.staleCmp = .ge) :
    s.arbStep.stale = true ↔ 30 ≤ s.arbStep.scnt.toNat := by
  rw [State.arbStep_stale, State.arbStep_scnt, h]
  exact staleFlag_ge_iff _

theorem State.arbStep_irqPend_of_rise (hs : s.stale = false) (ht : s.arbStep.stale = true) :
    s.arbStep.irqPend = s.irqPend ||| irqStale := by
  rw [State.arbStep_irqPend, if_pos ⟨hs, s.arbStep_stale ▸ ht⟩]

theorem State.arbStep_irqPend_of_no_rise (h : s.stale = true ∨ s.arbStep.stale = false) :
    s.arbStep.irqPend = s.irqPend := by
  rw [State.arbStep_stale] at h
  rw [State.arbStep_irqPend, if_neg]
  rintro ⟨hs, ht⟩
  exact h.elim (fun h => absurd (h.symm.trans hs) nofun) fun h => absurd (h.symm.trans ht) nofun

end

/-- Settles O33: the timer as a number, its comparison, and the interrupt with and without a rise. -/
theorem stepUpdatesStaleness : Obligations.StepUpdatesStaleness := by
  unfold Obligations.StepUpdatesStaleness
  intro s v hcmp
  refine ⟨s.arbStep, rfl, fun hr => ?_, fun hr => ?_, s.arbStep_rss, State.arbStep_stale_iff_of_ge hcmp,
    State.arbStep_irqPend_of_rise, State.arbStep_irqPend_of_no_rise⟩
  · rw [State.arbStep_scnt, hr]
    rfl
  · rw [State.arbStep_scnt, nextScnt_toNat, hr, if_neg Bool.false_ne_true]

/-! ### Status and cause (R147-R149) -/

section
variable {s : State}

/-- R147: the effective PM sensor fault of a STEP, by the STALE flag it leaves. -/
theorem State.stepFaults_pf_iff : s.stepFaults.pf = true ↔ s.arbIn.getLsbD 9 = true ∨ s.arbStep.stale = true := by
  rw [State.stepFaults_eq]
  exact Bool.or_eq_true_iff

/-- R149: a faulty PM or temperature sensor is first. -/
theorem State.stepStatus_of_fault (h : s.stepFaults.pf = true ∨ s.stepFaults.tf = true) :
    s.stepStatus = (.envWarning, .fault) :=
  arbitrate_of_fault (by rcases h with h | h <;> simp [h])

/-- R148, R149: with neither fault no alarm is masked, and the inputs rank in the rule's own order. -/
theorem State.stepStatus_of_no_fault (hc : s.cfg.atDefaultReadings) (hp : s.stepFaults.pf = false)
    (ht : s.stepFaults.tf = false) : s.stepStatus =
      if s.arbIn.getLsbD 0 then (.fireAlert, .fire)
      else if s.arbIn.getLsbD 1 then (.intrusion, .intr)
      else if s.arbIn.getLsbD 2 then (.envWarning, .pm)
      else if s.arbIn.getLsbD 3 then (.envWarning, .temp)
      else if s.arbIn.getLsbD 4 then (.envWarning, .humi)
      else (.normal, .none) := by
  obtain ⟨hsf, _, _, horder⟩ := hc
  rw [State.stepStatus, State.stepAlarms, maskAlarms_of_no_fault hp ht]
  simp only [arbitrate, hp, ht, hsf, horder, Bool.false_and, Bool.or_false, Bool.false_eq_true, if_false]
  rfl

/-- R156: the codes of a known status and cause. -/
theorem State.arbStep_codes {status : Status} {cause : Cause} (h : s.stepStatus = (status, cause)) :
    (s.arbStep.arbStat.extractLsb' 0 2).toNat = status.code.toNat ∧
      (s.arbStep.arbStat.extractLsb' 4 3).toNat = cause.code.toNat := by
  rw [State.arbStep_status_code, State.arbStep_cause_code, h]
  exact ⟨rfl, rfl⟩

end

/-- Settles O34: the faults first, then the chain that a fault-free STEP follows. -/
theorem stepArbitratesByPriority : Obligations.StepArbitratesByPriority := by
  unfold Obligations.StepArbitratesByPriority
  intro s v hc
  refine ⟨s.arbStep, rfl, ?_⟩
  intro status cause pf tf fire intr pm temp humi
  have hfree (hp : ¬pf) (ht : ¬tf) := State.stepStatus_of_no_fault hc
    (Bool.eq_false_of_not_eq_true (mt State.stepFaults_pf_iff.1 hp)) (Bool.eq_false_of_not_eq_true ht)
  refine ⟨fun h => ?_, fun hp ht hf => ?_, fun hp ht hf hi => ?_, fun hp ht hf hi hpm => ?_,
    fun hp ht hf hi hpm hte => ?_, fun hp ht hf hi hpm hte hhu => ?_, fun hp ht hf hi hpm hte hhu => ?_⟩
  · exact State.arbStep_codes (State.stepStatus_of_fault (h.imp_left State.stepFaults_pf_iff.2))
  · exact State.arbStep_codes ((hfree hp ht).trans (if_pos hf))
  · exact State.arbStep_codes ((hfree hp ht).trans (by rw [if_neg hf, if_pos hi]))
  · exact State.arbStep_codes ((hfree hp ht).trans (by rw [if_neg hf, if_neg hi, if_pos hpm]))
  · exact State.arbStep_codes ((hfree hp ht).trans (by rw [if_neg hf, if_neg hi, if_neg hpm, if_pos hte]))
  · exact State.arbStep_codes ((hfree hp ht).trans (by
      rw [if_neg hf, if_neg hi, if_neg hpm, if_neg hte, if_pos hhu]))
  · exact State.arbStep_codes ((hfree hp ht).trans (by
      rw [if_neg hf, if_neg hi, if_neg hpm, if_neg hte, if_neg hhu]))

/-! ### Alarm, counter and sound (R148, R150, R151) -/

/-- R148, R150: the alarms that count are fire, intrusion and those of a sensor that is not faulty. -/
theorem alarmAny_maskAlarms_iff (inp : Word) (stale : Bool) :
    alarmAny inp (maskAlarms inp (effFaults inp stale)) = true ↔
      inp.getLsbD 0 = true ∨ inp.getLsbD 1 = true ∨
        (inp.getLsbD 2 = true ∧ inp.getLsbD 9 = false ∧ stale = false) ∨
        (inp.getLsbD 3 = true ∧ inp.getLsbD 8 = false) ∨ (inp.getLsbD 4 = true ∧ inp.getLsbD 8 = false) := by
  simp [alarmAny, maskAlarms, effFaults, arbFire, arbIntr, arbPm, arbTemp, arbHumi, arbPfault, arbTfault, or_assoc]

/-- D14: with SOUND_CMP_PRE at its default, SOUND compares the counter before its increment. -/
theorem soundFlag_pre_iff {c : Config} (h : c.soundCmpPre = true) (any : Bool) (dur0 : Byte) (silent : Bool) :
    soundFlag c any dur0 silent = true ↔ any = true ∧ dur0.toNat < 50 ∧ silent = false := by
  simp [soundFlag, h, and_assoc]

section
variable {s : State}

/-- R151: DUR after a STEP, by the ALARM_ANY bit it leaves. -/
theorem State.arbStep_dur_toNat : (s.arbStep.arbStat.extractLsb' 16 8).toNat =
    if s.arbStep.arbStat.getLsbD 9 then min ((s.arbStat.extractLsb' 16 8).toNat + 1) 50 else 0 := by
  rw [State.arbStep_dur, nextDur_toNat, State.arbStep_alarmAny_bit]
  rfl

theorem State.arbStep_sound_iff_of_pre (h : s.cfg.soundCmpPre = true) : s.arbStep.arbStat.getLsbD 8 = true ↔
    s.arbStep.arbStat.getLsbD 9 = true ∧ (s.arbStat.extractLsb' 16 8).toNat < 50 ∧ s.arbCfg.getLsbD 0 = false := by
  rw [State.arbStep_sound_bit, State.arbStep_alarmAny_bit]
  exact soundFlag_pre_iff h ..

end

/-- Settles O35: ALARM_ANY on the inputs; DUR and SOUND by the ALARM_ANY bit. -/
theorem stepSoundsWithinBudget : Obligations.StepSoundsWithinBudget := by
  unfold Obligations.StepSoundsWithinBudget
  intro s v hpre
  refine ⟨s.arbStep, rfl, ?_⟩
  intro dur0 dur any
  have hany : s.arbStep.arbStat.getLsbD 9 = true ↔ any := by
    rw [State.arbStep_alarmAny_bit, State.stepAlarms, State.stepFaults_eq]
    exact alarmAny_maskAlarms_iff ..
  refine ⟨hany, fun h => ?_, fun h => ?_, ?_, rfl⟩
  · exact State.arbStep_dur_toNat.trans (if_pos (hany.2 h))
  · exact State.arbStep_dur_toNat.trans (if_neg (mt hany.1 h))
  · rw [State.arbStep_sound_iff_of_pre hpre, hany]

/-! ### Fault code (R152) -/

theorem State.arbStep_faultCode (s : State) : s.arbStep.arbStat.extractLsb' 12 2 = faultCode s.stepFaults := by
  rw [State.arbStep_arbStat]
  exact statFaultCode_arbStatWord ..

/-- Settles O36: the chain of R152 on the faults the STEP sees. -/
theorem stepReportsLowestFaultCode : Obligations.StepReportsLowestFaultCode := by
  unfold Obligations.StepReportsLowestFaultCode
  intro s v
  refine ⟨s.arbStep, rfl, ?_⟩
  intro code pf
  have hcode : code = (if s.arbIn.getLsbD 8 then 1 else if s.stepFaults.pf then 2
      else if s.arbIn.getLsbD 10 then 3 else 0 : BitVec 2).toNat := congrArg BitVec.toNat s.arbStep_faultCode
  have hpf : s.stepFaults.pf = true ↔ pf := State.stepFaults_pf_iff
  refine ⟨fun ht => ?_, fun ht hp => ?_, fun ht hp hs => ?_, fun ht hp hs => ?_⟩
  · rw [hcode, if_pos ht]; rfl
  · rw [hcode, ht, if_neg Bool.false_ne_true, if_pos (hpf.2 hp)]; rfl
  · rw [hcode, ht, if_neg Bool.false_ne_true, if_neg (mt hpf.1 hp), if_pos hs]; rfl
  · rw [hcode, ht, hs, if_neg Bool.false_ne_true, if_neg (mt hpf.1 hp), if_neg Bool.false_ne_true]; rfl

/-! ### The light (R153, R154, R165) -/

/-- R36: a pixel index of the strip fits POS. -/
theorem movingPos_toNat {c : Config} (hc : c.wf) (t : Word) :
    (BitVec.ofNat 8 (t.toNat % c.nPix)).toNat = t.toNat % c.nPix := by
  obtain ⟨hmin, hmax⟩ := hc
  have hlt : t.toNat % c.nPix < c.nPix := Nat.mod_lt _ hmin
  exact Nat.mod_eq_of_lt (by omega)

/-- R153, R165: with no override, a cause other than NONE flashes its colour at its period. -/
theorem selectLight_flash {c : Config} {acfg : Word} {cause : Cause} (hemerg : ¬acfg.getLsbD 2 = true)
    (hedit : ¬acfg.getLsbD 3 = true) (hcause : cause ≠ .none) (t : Word) :
    selectLight c acfg cause t = ⟨.flash, causeColour c.colors cause, causePeriod cause, 0⟩ := by
  rw [selectLight, cfgEmerg, cfgEdit, if_neg hemerg, if_neg hedit, if_neg hcause]

/-- R154: the phase of a flashing light. -/
theorem litPhase_flash_toNat (period : Byte) (t : Word) :
    (litPhase .flash period t).toNat = if t.toNat / period.toNat % 2 = 0 then 1 else 0 := by
  simp [litPhase, Bool.toNat, Bool.cond_eq_ite]

section
variable {s : State}

/-- R154, R156: the three light registers after a STEP whose light is known. -/
theorem State.arbStep_shows {kind : Kind} {rgb : Rgb} {period pos : Byte} (h : s.stepLight = ⟨kind, rgb, period, pos⟩) :
    s.arbStep.light.toNat = 256 * period.toNat + 16 * (litPhase kind period s.tick).toNat + kind.code.toNat ∧
      s.arbStep.lightRgb.toNat = rgb.toNat ∧ s.arbStep.lightPos.toNat = pos.toNat := by
  rw [State.arbStep_light, State.arbStep_lightRgb, State.arbStep_lightPos, lightWord_toNat, lightRgbWord_toNat,
    lightPosWord_toNat, h]
  exact ⟨rfl, rfl, rfl⟩

/-- R33: the CAUSE field names the cause the STEP arrived at. -/
theorem State.stepCause_of_code {cause : Cause}
    (h : (s.arbStep.arbStat.extractLsb' 4 3).toNat = cause.code.toNat) : s.stepStatus.2 = cause :=
  Cause.code_injective (BitVec.eq_of_toNat_eq (s.arbStep_cause_code ▸ h))

/-- R153, R154, R165: the light registers after a STEP that flashes its cause. -/
theorem State.arbStep_flashes (hemerg : ¬s.arbCfg.getLsbD 2 = true) (hedit : ¬s.arbCfg.getLsbD 3 = true)
    {cause : Cause} (hne : cause ≠ .none)
    (h : (s.arbStep.arbStat.extractLsb' 4 3).toNat = cause.code.toNat) :
    s.arbStep.light.toNat = 256 * (causePeriod cause).toNat +
        16 * (if s.tick.toNat / (causePeriod cause).toNat % 2 = 0 then 1 else 0) + 2 ∧
      s.arbStep.lightRgb.toNat = (causeColour s.cfg.colors cause).toNat ∧ s.arbStep.lightPos.toNat = 0 := by
  have hlight : s.stepLight = ⟨.flash, causeColour s.cfg.colors cause, causePeriod cause, 0⟩ := by
    rw [State.stepLight, State.stepCause_of_code h, selectLight_flash hemerg hedit hne]
  obtain ⟨hword, hrgb, hpos⟩ := State.arbStep_shows hlight
  exact ⟨by rw [hword, litPhase_flash_toNat]; rfl, hrgb, hpos⟩

end

/-- Settles O37: the overrides and the two lights of NONE one by one; the six other causes by the flash they share. -/
theorem stepSelectsLight : Obligations.StepSelectsLight := by
  unfold Obligations.StepSelectsLight
  intro s v hwf
  refine ⟨s.arbStep, rfl, ?_⟩
  intro c emerg edit loff cause shows flashes
  refine ⟨fun he => ?_, fun he hd => ?_, fun he hd hc hl => ?_, fun he hd hc hl => ?_,
    fun he hd => State.arbStep_flashes (cause := .fault) he hd nofun,
    fun he hd => State.arbStep_flashes (cause := .fire) he hd nofun,
    fun he hd => State.arbStep_flashes (cause := .intr) he hd nofun,
    fun he hd => State.arbStep_flashes (cause := .pm) he hd nofun,
    fun he hd => State.arbStep_flashes (cause := .temp) he hd nofun,
    fun he hd => State.arbStep_flashes (cause := .humi) he hd nofun, ?_⟩
  · exact State.arbStep_shows (if_pos he)
  · obtain ⟨hword, hrgb, hpos⟩ := State.arbStep_shows ((if_neg he).trans (if_pos hd))
    exact ⟨hword, hrgb, hpos.trans (movingPos_toNat hwf _)⟩
  · have hnone : s.stepStatus.2 = .none := State.stepCause_of_code hc
    exact State.arbStep_shows ((if_neg he).trans ((if_neg hd).trans ((if_pos hnone).trans (if_pos hl))))
  · have hnone : s.stepStatus.2 = .none := State.stepCause_of_code hc
    exact State.arbStep_shows ((if_neg he).trans ((if_neg hd).trans ((if_pos hnone).trans (if_neg hl))))
  · simp only [cause, State.arbStep_cause_code]
    exact Cause.code_lt _

/-! ### The frame of a STEP, and what its outputs depend on (R145, R146) -/

/-- Settles O39, by the one equation of a STEP; the written value stands nowhere in it. -/
theorem stepChangesOnlyTimerAndOutputs : Obligations.StepChangesOnlyTimerAndOutputs := by
  unfold Obligations.StepChangesOnlyTimerAndOutputs
  intro s v
  refine ⟨rfl, s.arbStep, rfl, ?_, fun _ => rfl⟩
  rw [State.arbStep_scnt, State.arbStep_stale, State.arbStep_rss]
  exact s.arbStep_eq

/-- Settles O40: faults, alarms, arbitration and light agree in turn, and so does every committed word. -/
theorem stepOutputsDependOnlyOnSampledInputs : Obligations.StepOutputsDependOnlyOnSampledInputs := by
  unfold Obligations.StepOutputsDependOnlyOnSampledInputs
  intro s₁ s₂ v₁ v₂ hcfg hin hacfg htick hdur hscnt hrss
  have hfaults : s₁.stepFaults = s₂.stepFaults := by rw [State.stepFaults, hcfg, hin, hscnt, hrss]
  have halarms : s₁.stepAlarms = s₂.stepAlarms := by rw [State.stepAlarms, hfaults, hin]
  have hstatus : s₁.stepStatus = s₂.stepStatus := by rw [State.stepStatus, hcfg, hin, hfaults, halarms]
  have hlight : s₁.stepLight = s₂.stepLight := by rw [State.stepLight, hcfg, hacfg, hstatus, htick]
  have hdur0 : statDur s₁.arbStat = statDur s₂.arbStat := hdur
  refine ⟨s₁.arbStep, s₂.arbStep, rfl, rfl, ?_, ?_, ?_, ?_, ?_, ?_, ?_⟩
  · rw [State.arbStep_arbStat, State.arbStep_arbStat, hfaults, halarms, hstatus, hdur0, hcfg, hin, hacfg]
  · rw [State.arbStep_light, State.arbStep_light, hlight, htick]
  · rw [State.arbStep_lightRgb, State.arbStep_lightRgb, hlight]
  · rw [State.arbStep_lightPos, State.arbStep_lightPos, hlight]
  · rw [State.arbStep_scnt, State.arbStep_scnt, hrss, hscnt]
  · rw [State.arbStep_stale, State.arbStep_stale, hcfg, hrss, hscnt]
  · rw [State.arbStep_rss, State.arbStep_rss]

/-! ### A run of STEPs under a fire alarm (R151) -/

section
variable {s : State}

/-- R150: a fire alarm is never masked. -/
theorem State.arbStep_alarmAny_of_fire (h : s.arbIn.getLsbD 0 = true) : s.arbStep.arbStat.getLsbD 9 = true := by
  rw [State.arbStep_alarmAny_bit]
  exact (alarmAny_maskAlarms_iff ..).2 (.inl h)

/-- R151: while FIRE holds, n STEPs keep what they sample and count DUR up to its cap. -/
theorem State.iterate_arbStep_dur (hfire : s.arbIn.getLsbD 0 = true) (hdur : s.arbStat.extractLsb' 16 8 = 0#8)
    (n : Nat) :
    (State.arbStep^[n] s).cfg = s.cfg ∧ (State.arbStep^[n] s).arbIn = s.arbIn ∧
      (State.arbStep^[n] s).arbCfg = s.arbCfg ∧
      ((State.arbStep^[n] s).arbStat.extractLsb' 16 8).toNat = min n 50 := by
  induction n with
  | zero => exact ⟨rfl, rfl, rfl, by rw [Function.iterate_zero_apply, hdur]; rfl⟩
  | succ n ih =>
    obtain ⟨icfg, iin, iacfg, idur⟩ := ih
    rw [Function.iterate_succ_apply']
    set t := State.arbStep^[n] s
    refine ⟨t.arbStep_cfg.trans icfg, t.arbStep_arbIn.trans iin, t.arbStep_arbCfg.trans iacfg, ?_⟩
    rw [State.arbStep_dur_toNat, if_pos (State.arbStep_alarmAny_of_fire (iin ▸ hfire)), idur]
    omega

end

/-- Settles O41: the last of the n + 1 STEPs compares the n that the counter then holds. -/
theorem exactlyFiftyStepsSound : Obligations.ExactlyFiftyStepsSound := by
  unfold Obligations.ExactlyFiftyStepsSound
  intro s n hpre hfire hsilent hdur
  obtain ⟨_, _, _, hcount⟩ := State.iterate_arbStep_dur hfire hdur (n + 1)
  obtain ⟨icfg, iin, iacfg, idur⟩ := State.iterate_arbStep_dur hfire hdur n
  refine ⟨_, runInstrs_replicate (fun _ => rfl) (n + 1) s, hcount, ?_⟩
  rw [Function.iterate_succ_apply']
  set t := State.arbStep^[n] s
  have hany := State.arbStep_alarmAny_of_fire (s := t) (iin ▸ hfire)
  have hsound : t.arbStep.buzzO = true ↔ _ := State.arbStep_sound_iff_of_pre (icfg ▸ hpre)
  rw [hsound, hany, idur, iacfg, hsilent]
  simp only [true_and, and_true]
  omega

end Sys2Proof.Machine
end

section
/-! SUPPORT. The arbitrator's own accesses (R141-R144, R157-R163), and which operations can change its state at all
(R33-R37, R146). -/

namespace Sys2Proof.Machine

/-- Settles O43: each write and each read is its own equation. -/
theorem inputRegistersHoldWritableBits : Obligations.InputRegistersHoldWritableBits := by
  unfold Obligations.InputRegistersHoldWritableBits
  exact fun _ _ => ⟨rfl, rfl, rfl, rfl, rfl, rfl, rfl, rfl⟩

/-- Settles O44: each read only returns its register. -/
theorem arbitratorOutputReads : Obligations.ArbitratorOutputReads := by
  unfold Obligations.ArbitratorOutputReads
  exact fun _ => ⟨rfl, rfl, rfl, rfl, rfl, rfl, rfl, rfl, rfl, rfl, rfl, rfl⟩

/-- Settles O45: the 32-bit increment as a number. -/
theorem tickAdvancesTimeBase : Obligations.TickAdvancesTimeBase := by
  unfold Obligations.TickAdvancesTimeBase
  exact fun s => ⟨rfl, s.tickOnce, rfl, rfl, BitVec.toNat_add s.tick 1⟩

/-! ### The operations that touch the arbitrator -/

/-- The arbitrator's registers: its outputs, the staleness timer, the time base and the input registers. -/
structure Arbitrator where
  arbStat : Word
  light : Word
  lightRgb : Word
  lightPos : Word
  scnt : Byte
  stale : Bool
  tick : Word
  arbIn : Word
  arbCfg : Word

def State.arbitrator (s : State) : Arbitrator :=
  { arbStat := s.arbStat, light := s.light, lightRgb := s.lightRgb, lightPos := s.lightPos, scnt := s.scnt,
    stale := s.stale, tick := s.tick, arbIn := s.arbIn, arbCfg := s.arbCfg }

theorem arbitrator_eq_iff {s t : State} : t.arbitrator = s.arbitrator ↔
    t.arbStat = s.arbStat ∧ t.light = s.light ∧ t.lightRgb = s.lightRgb ∧ t.lightPos = s.lightPos ∧ t.scnt = s.scnt ∧
      t.stale = s.stale ∧ t.tick = s.tick ∧ t.arbIn = s.arbIn ∧ t.arbCfg = s.arbCfg :=
  Arbitrator.mk.injEq .. ▸ Iff.rfl

section
variable (s : State)

theorem State.takeRecord_arbitrator : s.takeRecord.arbitrator = s.arbitrator := by
  rcases s.takeRecord_cases with ⟨_, h⟩ | ⟨_, h⟩ <;> rw [h]
  rfl

theorem State.publish_arbitrator : s.publish.arbitrator = s.arbitrator := by
  simp only [State.publish_eq, State.arbitrator]

theorem State.rxByte_arbitrator (d : Byte) : (s.rxByte d).arbitrator = s.arbitrator := by
  rcases s.rxByte_cases d with ⟨_, _, h⟩ | ⟨_, _, h⟩ | ⟨_, _, h⟩ | ⟨_, _, h⟩ | ⟨_, _, h⟩ | ⟨_, _, _, h⟩ |
    ⟨_, _, _, h⟩ <;> rw [h]
  · rfl
  · rfl
  · rfl
  · rfl
  · exact (s.bufferByte 31 d).publish_arbitrator
  · rfl

theorem State.refreshRequest_arbitrator : s.refreshRequest.arbitrator = s.arbitrator := by
  rcases s.refreshRequest_cases with ⟨_, h⟩ | ⟨_, _, h⟩ | ⟨_, _, h⟩ <;> rw [h] <;> rfl

theorem State.writeLedCtrl_arbitrator (v : Word) : (s.writeLedCtrl v).arbitrator = s.arbitrator := by
  rcases s.writeLedCtrl_cases v with ⟨_, h⟩ | ⟨_, h⟩ <;> rw [h]
  · rfl
  · exact ({ s with pixsrc := v.getLsbD 1 } : State).refreshRequest_arbitrator

theorem State.writePixelSlot_arbitrator (i : BitVec 8) (v : Word) :
    (s.writePixelSlot i v).arbitrator = s.arbitrator := by
  rcases s.writePixelSlot_cases i v with ⟨_, h⟩ | ⟨_, _, h⟩ | ⟨_, _, h⟩ <;> rw [h] <;> rfl

theorem State.clkOnce_arbitrator : s.clkOnce.arbitrator = s.arbitrator := by
  rcases s.clkOnce_cases with ⟨_, h⟩ | ⟨_, _, h⟩ | ⟨_, _, h⟩ <;> rw [h] <;> rfl

/-- R204-R210: a timing write is dropped while BUSY; its store is t. -/
theorem State.dropWrite_or_arbitrator {t : State} (h : t.arbitrator = s.arbitrator) :
    (if s.lbusy then s.dropWrite else t).arbitrator = s.arbitrator := by
  cases s.lbusy
  · exact h
  · rfl

end

/-- Everything an operation can do to the arbitrator's state. -/
theorem exec_arbitrator_cases {i : Instr} {s t : State} (h : exec i s = .next t) :
    t.arbitrator = s.arbitrator ∨
    (∃ v, i = .wrArbIn v ∧ t = { s with arbIn := v &&& arbInMask }) ∨
    (∃ v, i = .wrArbCfg v ∧ t = { s with arbCfg := v &&& arbCfgMask }) ∨
    (∃ v, i = .wrArbStep v ∧ t = s.arbStep) ∨
    (i = .tick ∧ t = s.tickOnce) ∨
    (i = .reset ∧ t = s.resetBlock) := by
  rcases exec_next_cases h with ⟨_, _, rfl⟩ | ⟨_, rfl⟩ | ⟨_, rfl⟩ | ⟨d, _, rfl⟩ | hin | hcfg | hstep | htick |
    ⟨v, _, rfl⟩ | ⟨_, _, rfl⟩ | ⟨_, _, rfl⟩ | ⟨_, _, rfl⟩ | ⟨_, _, rfl⟩ | ⟨_, _, rfl⟩ | ⟨n, v, _, rfl⟩ |
    ⟨_, _, rfl⟩ | ⟨_, _, rfl⟩ | ⟨_, rfl⟩ | hreset
  · exact .inl rfl
  · exact .inl rfl
  · exact .inl (s.returns (mbStatWord s.ovr s.fresh)).takeRecord_arbitrator
  · exact .inl (s.rxByte_arbitrator d)
  · exact .inr (.inl hin)
  · exact .inr (.inr (.inl hcfg))
  · exact .inr (.inr (.inr (.inl hstep)))
  · exact .inr (.inr (.inr (.inr (.inl htick))))
  · exact .inl (s.writeLedCtrl_arbitrator v)
  · exact .inl rfl
  · exact .inl (s.dropWrite_or_arbitrator rfl)
  · exact .inl (s.dropWrite_or_arbitrator rfl)
  · exact .inl (s.dropWrite_or_arbitrator rfl)
  · exact .inl (s.dropWrite_or_arbitrator rfl)
  · exact .inl (s.writePixelSlot_arbitrator n v)
  · exact .inl rfl
  · exact .inl rfl
  · exact .inl s.clkOnce_arbitrator
  · exact .inr (.inr (.inr (.inr (.inr hreset))))

/-- Settles O46: outside the four writers the whole arbitrator stays, and each writer keeps what it does not own. -/
theorem arbitratorStateHasFewWriters : Obligations.ArbitratorStateHasFewWriters := by
  unfold Obligations.ArbitratorStateHasFewWriters
  intro i s t he hreset
  rcases exec_arbitrator_cases he with hsame | ⟨v, hi, rfl⟩ | ⟨v, hi, rfl⟩ | ⟨v, hi, rfl⟩ | ⟨hi, rfl⟩ | ⟨hi, _⟩
  · obtain ⟨hstat, hlight, hrgb, hpos, hscnt, hstale, htick, hin, hcfg⟩ := arbitrator_eq_iff.1 hsame
    have hbuzz : t.buzzO = s.buzzO := congrArg statSound hstat
    exact ⟨fun _ => ⟨hstat, hlight, hrgb, hpos, hscnt, hstale, hbuzz⟩, fun _ => htick, fun _ => hin, fun _ => hcfg⟩
  · exact ⟨fun _ => ⟨rfl, rfl, rfl, rfl, rfl, rfl, rfl⟩, fun _ => rfl, fun hne => absurd hi (hne v), fun _ => rfl⟩
  · exact ⟨fun _ => ⟨rfl, rfl, rfl, rfl, rfl, rfl, rfl⟩, fun _ => rfl, fun _ => rfl, fun hne => absurd hi (hne v)⟩
  · exact ⟨fun hne => absurd hi (hne v), fun _ => s.arbStep_tick, fun _ => s.arbStep_arbIn, fun _ => s.arbStep_arbCfg⟩
  · exact ⟨fun _ => ⟨rfl, rfl, rfl, rfl, rfl, rfl, rfl⟩, fun hne => absurd hi hne, fun _ => rfl, fun _ => rfl⟩
  · exact absurd hi hreset

end Sys2Proof.Machine
end

section
/-! SUPPORT. Register and pixel accesses of the LED encoder (R195-R201, R204-R213) and the CLK event (R202): what each
does in each case, as an equation. -/

namespace Sys2Proof.Machine

/-! ### The refresh request (R195-R198) -/

/-- The state an accepted request leaves: PIXSRC written, the burst started. -/
abbrev State.requestAccepted (s : State) (v : Word) : State :=
  ({ s with pixsrc := v.getLsbD 1 } : State).acceptBurst

section
variable {s : State} {v : Word}

theorem exec_wrLedCtrl_of_no_request (hv : v.getLsbD 0 = false) :
    exec (.wrLedCtrl v) s = .next { s with pixsrc := v.getLsbD 1 } :=
  congrArg Host.Outcome.next (if_neg (Bool.eq_false_iff.1 hv))

theorem exec_wrLedCtrl_of_busy (hv : v.getLsbD 0 = true) (hb : s.lbusy = true) : exec (.wrLedCtrl v) s =
    .next { s with pixsrc := v.getLsbD 1, rdrop := true, conds := s.conds ++ [.refreshBusy] } :=
  congrArg Host.Outcome.next ((if_pos hv).trans (if_pos hb))

theorem exec_wrLedCtrl_of_invalid (hv : v.getLsbD 0 = true) (hb : s.lbusy = false)
    (ht : timingOk s.ledT0h s.ledT1h s.ledTbit s.ledTrst = false) : exec (.wrLedCtrl v) s =
    .next { s with pixsrc := v.getLsbD 1, cfgerr := true, conds := s.conds ++ [.ledCfgInvalid] } :=
  congrArg Host.Outcome.next
    ((if_pos hv).trans ((if_neg (Bool.eq_false_iff.1 hb)).trans (if_neg (Bool.eq_false_iff.1 ht))))

theorem exec_wrLedCtrl_of_valid (hv : v.getLsbD 0 = true) (hb : s.lbusy = false)
    (ht : timingOk s.ledT0h s.ledT1h s.ledTbit s.ledTrst = true) :
    exec (.wrLedCtrl v) s = .next (s.requestAccepted v) :=
  congrArg Host.Outcome.next ((if_pos hv).trans ((if_neg (Bool.eq_false_iff.1 hb)).trans (if_pos ht)))

/-- R196, R198: a request that finds the encoder idle and leaves it busy was accepted. -/
theorem requestAccepted_of_busy_after {t : State} (hb : s.lbusy = false) (hv : v.getLsbD 0 = true)
    (he : exec (.wrLedCtrl v) s = .next t) (ht : t.lbusy = true) :
    timingOk s.ledT0h s.ledT1h s.ledTbit s.ledTrst = true ∧ t = s.requestAccepted v := by
  cases htim : timingOk s.ledT0h s.ledT1h s.ledTbit s.ledTrst with
  | true =>
    rw [exec_wrLedCtrl_of_valid hv hb htim] at he
    cases he
    exact ⟨rfl, rfl⟩
  | false =>
    rw [exec_wrLedCtrl_of_invalid hv hb htim] at he
    cases he
    exact absurd (hb.symm.trans ht) nofun

end

/-- Settles O47: no request, and the three answers to one. -/
theorem ledControlWriteRequestsBurst : Obligations.LedControlWriteRequestsBurst := by
  unfold Obligations.LedControlWriteRequestsBurst
  intro s v
  exact ⟨rfl, exec_wrLedCtrl_of_no_request, exec_wrLedCtrl_of_busy,
    fun hv hb hinvalid => exec_wrLedCtrl_of_invalid hv hb (Bool.eq_false_iff.2 (mt (timingOk_iff ..).1 hinvalid)),
    fun hv hb hvalid => ⟨_, exec_wrLedCtrl_of_valid hv hb ((timingOk_iff ..).2 hvalid)⟩⟩

/-! ### One CLK (R202) -/

section
variable {s : State}

theorem State.clkOnce_idle (hb : s.lbusy = false) : s.clkOnce = { s with out := .lineLevel false } :=
  if_neg (Bool.eq_false_iff.1 hb)

theorem State.clkOnce_advances (hb : s.lbusy = true)
    (hne : (s.lt + 1).toNat ≠ burstTotal s.cfg.nPix s.ltbit s.ltrst) :
    s.clkOnce = { s with out := .lineLevel s.ledDout, lt := s.lt + 1 } :=
  (if_pos hb).trans (if_neg hne)

theorem State.clkOnce_ends (hb : s.lbusy = true)
    (heq : (s.lt + 1).toNat = burstTotal s.cfg.nPix s.ltbit s.ltrst) :
    s.clkOnce = { s with
      out := .lineLevel s.ledDout, lt := 0, lbusy := false, irqPend := s.irqPend ||| irqLdone } :=
  (if_pos hb).trans (if_pos heq)

/-- R53, R202: busy or idle, a CLK returns the level of the line. -/
theorem State.clkOnce_out (s : State) : s.clkOnce.out = .lineLevel s.ledDout := by
  rcases s.clkOnce_cases with ⟨hb, e⟩ | ⟨_, _, e⟩ | ⟨_, _, e⟩ <;> rw [e]
  · rw [State.ledDout, hb]
    rfl
  · rfl
  · rfl

end

theorem exec_clk (s : State) : exec .clk s = .next s.clkOnce := rfl

/-- Settles O49: the incremented LT as a number is the 32-bit sum. -/
theorem clkAdvancesBurst : Obligations.ClkAdvancesBurst := by
  unfold Obligations.ClkAdvancesBurst
  intro s
  have hsucc : (s.lt + 1).toNat = (s.lt.toNat + 1) % 2 ^ 32 := BitVec.toNat_add s.lt 1
  refine ⟨rfl, fun hb => ?_, fun hb hne => ?_, fun hb heq => ?_⟩
  · rw [exec_clk, State.clkOnce_idle hb]
  · rw [exec_clk, State.clkOnce_advances hb (hsucc ▸ hne)]
  · rw [exec_clk, State.clkOnce_ends hb (hsucc.trans heq)]
    rfl

/-! ### The control, status and timing registers (R199-R211) -/

/-- Settles O53: each read returns its register as a number. -/
theorem ledRegisterReads : Obligations.LedRegisterReads := by
  unfold Obligations.LedRegisterReads
  exact fun _ => ⟨⟨_, rfl, ledCtrlWord_toNat _⟩, ⟨_, rfl, ledStatWord_toNat ..⟩, ⟨_, rfl, halfWord_toNat _⟩,
    ⟨_, rfl, halfWord_toNat _⟩, ⟨_, rfl, halfWord_toNat _⟩, ⟨_, rfl, halfWord_toNat _⟩, rfl, rfl, rfl, rfl, rfl, rfl⟩

/-- R204-R210: a write that is dropped while BUSY, its store t not made. -/
theorem next_dropWrite_or_of_busy {s : State} (hb : s.lbusy = true) (t : State) :
    (.next (if s.lbusy then s.dropWrite else t) : Host.Outcome State Fault Refusal) =
      .next { s with wdrop := true, conds := s.conds ++ [.writeWhileBusy] } :=
  congrArg Host.Outcome.next (if_pos hb)

/-- R204-R210: a write that stores t when idle. -/
theorem next_dropWrite_or_of_idle {s : State} (hb : s.lbusy = false) (t : State) :
    (.next (if s.lbusy then s.dropWrite else t) : Host.Outcome State Fault Refusal) = .next t :=
  congrArg Host.Outcome.next (if_neg (Bool.eq_false_iff.1 hb))

/-- Settles O54: the four writes share one guard. -/
theorem timingWritesDroppedWhileBusy : Obligations.TimingWritesDroppedWhileBusy := by
  unfold Obligations.TimingWritesDroppedWhileBusy
  intro s v
  refine ⟨fun hb => ⟨next_dropWrite_or_of_idle hb _, next_dropWrite_or_of_idle hb _, next_dropWrite_or_of_idle hb _,
    next_dropWrite_or_of_idle hb _⟩, fun hb => ?_, rfl, rfl, rfl, rfl⟩
  simp only [List.forall_mem_cons]
  exact ⟨next_dropWrite_or_of_busy hb _, next_dropWrite_or_of_busy hb _, next_dropWrite_or_of_busy hb _,
    next_dropWrite_or_of_busy hb _, List.forall_mem_nil _⟩

/-- R201: a sticky bit under a written bit. -/
theorem clearSticky_cases (old written : Bool) :
    (written = true → (old && !written) = false) ∧ (written = false → (old && !written) = old) := by
  cases written <;> simp

/-- Settles O55: the three sticky bits one by one. -/
theorem ledStatusWriteClearsOnes : Obligations.LedStatusWriteClearsOnes := by
  unfold Obligations.LedStatusWriteClearsOnes
  intro s v
  obtain ⟨hcfgerr, hcfgerr'⟩ := clearSticky_cases s.cfgerr (v.getLsbD 1)
  obtain ⟨hwdrop, hwdrop'⟩ := clearSticky_cases s.wdrop (v.getLsbD 2)
  obtain ⟨hrdrop, hrdrop'⟩ := clearSticky_cases s.rdrop (v.getLsbD 3)
  exact ⟨rfl, s.writeLedStat v, rfl, rfl, hcfgerr, hcfgerr', hwdrop, hwdrop', hrdrop, hrdrop'⟩

/-! ### The pixel RAM (R212, R213) -/

/-- R85: a pixel descriptor is the start of the window and the slot in words. -/
theorem pixelDesc_toNat (high : BitVec 6) (i : BitVec 8) :
    (high ++ i ++ 0b00#2).toNat = 0x400 * high.toNat + 4 * i.toNat := by
  rw [toNat_append_eq, toNat_append_eq, BitVec.toNat_ofNat]
  omega

section
variable {s : State} {i : BitVec 8}

theorem exec_wrPix_past_strip (v : Word) (hi : s.cfg.nPix ≤ i.toNat) :
    exec (.wrPix i v) s = .next { s with conds := s.conds ++ [.ignoredAccess] } :=
  congrArg Host.Outcome.next (if_neg hi.not_gt)

theorem exec_wrPix_of_busy (v : Word) (hi : i.toNat < s.cfg.nPix) (hb : s.lbusy = true) :
    exec (.wrPix i v) s = .next { s with wdrop := true, conds := s.conds ++ [.writeWhileBusy] } :=
  congrArg Host.Outcome.next ((if_pos hi).trans (if_pos hb))

theorem exec_wrPix_of_idle (v : Word) (hi : i.toNat < s.cfg.nPix) (hb : s.lbusy = false) :
    exec (.wrPix i v) s = .next { s with pix := s.pix.write i.toNat (writePixel v) } :=
  congrArg Host.Outcome.next ((if_pos hi).trans (if_neg (Bool.eq_false_iff.1 hb)))

theorem exec_rdPix_in_strip (hi : i.toNat < s.cfg.nPix) :
    exec (.rdPix i) s = .next { s with out := .readData (pixelWord (s.pix.read i.toNat)) } :=
  congrArg Host.Outcome.next (if_pos hi)

theorem exec_rdPix_past_strip_silent (hi : s.cfg.nPix ≤ i.toNat) (hx : s.cfg.pixReadSignals = false) :
    exec (.rdPix i) s = .next { s with out := .readData 0 } :=
  congrArg Host.Outcome.next ((if_neg hi.not_gt).trans (if_neg (Bool.eq_false_iff.1 hx)))

theorem exec_rdPix_past_strip_signals (hi : s.cfg.nPix ≤ i.toNat) (hx : s.cfg.pixReadSignals = true) :
    exec (.rdPix i) s = .next { s with out := .readData 0, conds := s.conds ++ [.ignoredAccess] } :=
  congrArg Host.Outcome.next ((if_neg hi.not_gt).trans (if_pos hx))

end

/-- R212: a stored word is found at its own index, and every other word is as before. -/
theorem Memory.write_getElem? {n : Nat} {m : Memory} (h : Memory.wf n m) (i : Nat) (p : Rgb) {j : Nat} (hj : j < n) :
    (m.write i p)[j]? = if j = i then some p else m[j]? := by
  rw [Memory.getElem?_eq_read (Memory.write_wf i p h) hj]
  split_ifs with hji
  · rw [hji, Memory.read_write_same p h (hji ▸ hj)]
  · rw [Memory.read_write_other m p hji, Memory.getElem?_eq_read h hj]

/-- Settles O56: past the strip, busy, and the one word stored. -/
theorem pixelWriteStoresOneWord : Obligations.PixelWriteStoresOneWord := by
  unfold Obligations.PixelWriteStoresOneWord
  intro s i v hmem
  exact ⟨pixelDesc_toNat _ i, exec_wrPix_past_strip v, exec_wrPix_of_busy v, fun hi hb =>
    ⟨_, exec_wrPix_of_idle v hi hb, rfl, Memory.write_wf _ _ hmem, fun j hj => Memory.write_getElem? hmem _ _ hj⟩⟩

/-- Settles O57: past the strip on either reading, and the word inside it. -/
theorem pixelReadReturnsWord : Obligations.PixelReadReturnsWord := by
  unfold Obligations.PixelReadReturnsWord
  intro s i hmem
  exact ⟨pixelDesc_toNat _ i, exec_rdPix_past_strip_silent, exec_rdPix_past_strip_signals, fun hi =>
    ⟨_, _, Memory.getElem?_eq_read hmem hi, pixelWord_toNat _, exec_rdPix_in_strip hi⟩⟩

end Sys2Proof.Machine
end

section
/-! SUPPORT. What an accepted request latches (R192, R198, R203): the colour each pixel source gives, and where the
bits of a pixel stand in LBITS. -/

namespace Sys2Proof.Machine

/-! ### The pixel sources (R192, R203) -/

/-- R203: the pixels of a rendered strip, on the fields of the LIGHT registers. -/
theorem renderPixel_eq (light lightRgb lightPos : Word) (i : Nat) : renderPixel light lightRgb lightPos i =
    if light.extractLsb' 0 2 = 1#2 ∨ (light.extractLsb' 0 2 = 2#2 ∧ light.getLsbD 4 = true) ∨
        (light.extractLsb' 0 2 = 3#2 ∧ i = (lightPos.extractLsb' 0 8).toNat)
    then lightRgb.extractLsb' 0 24 else 0 := by
  have hkind : ∀ k : BitVec 2, k = 0#2 ∨ k = 1#2 ∨ k = 2#2 ∨ k = 3#2 := by decide
  rw [renderPixel, lightKind, lightLit, lightRgbColour, lightPosIndex]
  rcases hkind (light.extractLsb' 0 2) with h | h | h | h <;> simp [h, kindOfCode]

section
variable {s : State} {v : Word} {i : Nat} {p : Rgb}

/-- R192, R195: the request takes pixel i from the source it has just written. -/
theorem State.sourcePixel_of_request (hram : v.getLsbD 1 = false → s.pix[i]? = some p)
    (hlight : v.getLsbD 1 = true → p = renderPixel s.light s.lightRgb s.lightPos i) :
    ({ s with pixsrc := v.getLsbD 1 } : State).sourcePixel i = p := by
  unfold State.sourcePixel
  cases hv : v.getLsbD 1 with
  | false =>
    rw [if_neg Bool.false_ne_true, Memory.read, List.getD_eq_getElem?_getD, hram hv]
    rfl
  | true => exact (hlight hv).symm

/-! ### The latched bits (R192) -/

/-- R192: the place in 0xRRGGBB of bit 7-k of byte c, which is green, red or blue. -/
abbrev sentBit (c k : Nat) : Nat := if c = 0 then 15 - k else if c = 1 then 23 - k else 7 - k

theorem pixelBits_getElem?_sentBit (p : Rgb) {c k : Nat} (hc : c < 3) (hk : k < 8) :
    (pixelBits p)[8 * c + k]? = some (p.getLsbD (sentBit c k)) := by
  obtain ⟨hgreen, hred, hblue⟩ := pixelBits_getElem? p hk
  have hc3 : c = 0 ∨ c = 1 ∨ c = 2 := by omega
  rcases hc3 with rfl | rfl | rfl
  · rwa [Nat.mul_zero, Nat.zero_add]
  · exact hred
  · exact hblue

theorem State.requestAccepted_lbits_length (s : State) (v : Word) :
    (s.requestAccepted v).lbits.length = 24 * s.cfg.nPix :=
  stripBits_length ..

theorem State.requestAccepted_lbits_getElem? (hram : v.getLsbD 1 = false → s.pix[i]? = some p)
    (hlight : v.getLsbD 1 = true → p = renderPixel s.light s.lightRgb s.lightPos i) (hi : i < s.cfg.nPix)
    {c k : Nat} (hc : c < 3) (hk : k < 8) :
    (s.requestAccepted v).lbits[24 * i + (8 * c + k)]? = some (p.getLsbD (sentBit c k)) := by
  have hsource := State.sourcePixel_of_request hram hlight
  have hbits := stripBits_getElem? ({ s with pixsrc := v.getLsbD 1 } : State).sourcePixel hi (r := 8 * c + k) (by omega)
  rw [hsource, pixelBits_getElem?_sentBit p hc hk] at hbits
  exact hbits

end

/-- Settles O48: the three bytes of a pixel are the cases c = 0, 1, 2. -/
theorem acceptedRequestLatchesBits : Obligations.AcceptedRequestLatchesBits := by
  unfold Obligations.AcceptedRequestLatchesBits
  intro s t v _ hb hv he ht
  obtain ⟨_, rfl⟩ := requestAccepted_of_busy_after hb hv he ht
  refine ⟨s.requestAccepted_lbits_length v, fun i p hi hram hlight k hk => ?_⟩
  rw [← renderPixel_eq] at hlight
  have hgreen := State.requestAccepted_lbits_getElem? (c := 0) hram hlight hi (by decide) hk
  rw [Nat.mul_zero, Nat.zero_add] at hgreen
  rw [Nat.add_assoc, Nat.add_assoc]
  exact ⟨hgreen, State.requestAccepted_lbits_getElem? (c := 1) hram hlight hi (by decide) hk,
    State.requestAccepted_lbits_getElem? (c := 2) hram hlight hi (by decide) hk⟩

end Sys2Proof.Machine
end

section
/-! SUPPORT. A burst cycle by cycle (R191, R193, R194, R202): the state after n CLKs, how long a burst lasts, and the
level of the line in each cycle. -/

namespace Sys2Proof.Machine

/-! ### The level of the line (R193) -/

section
variable {nPix : Nat} {lbits : List Bool} {t0h t1h tbit : Half}

/-- R193: the period of a data bit lies before the end of the data. -/
theorem dataCycle_lt {b j : Nat} (hb : b < burstBits nPix) (hj : j < tbit.toNat) :
    b * tbit.toNat + j < burstBits nPix * tbit.toNat :=
  calc b * tbit.toNat + j < b * tbit.toNat + tbit.toNat := Nat.add_lt_add_left hj _
    _ = (b + 1) * tbit.toNat := (Nat.succ_mul ..).symm
    _ ≤ burstBits nPix * tbit.toNat := Nat.mul_le_mul_right _ hb

/-- R193: in the period of bit b the line is high for the first H(b) cycles. -/
theorem burstLevel_data {b j : Nat} (hb : b < burstBits nPix) (hj : j < tbit.toNat) :
    burstLevel nPix lbits t0h t1h tbit (b * tbit.toNat + j) = decide (j < highTime lbits t0h t1h b) := by
  rw [burstLevel, decide_eq_true (dataCycle_lt hb hj), Bool.true_and, Nat.mul_comm b, Nat.mul_add_mod,
    Nat.mod_eq_of_lt hj, Nat.mul_add_div (Nat.zero_lt_of_lt hj), Nat.div_eq_of_lt hj, Nat.add_zero]

/-- R191, R193: the line is low in the reset interval. -/
theorem burstLevel_reset (j : Nat) :
    burstLevel nPix lbits t0h t1h tbit (burstBits nPix * tbit.toNat + j) = false := by
  rw [burstLevel, decide_eq_false (Nat.not_lt.2 (Nat.le_add_right ..)), Bool.false_and]

theorem highTime_of_getElem? {b : Nat} {bit : Bool} (h : lbits[b]? = some bit) :
    highTime lbits t0h t1h b = if bit then t1h.toNat else t0h.toNat := by
  rw [highTime, List.getD_eq_getElem?_getD, h]
  rfl

end

/-! ### The state after n CLKs (R194, R202) -/

/-- R50: the count of n cycles of a burst is n, since LT does not wrap. -/
theorem ltOfCycles_toNat {nPix n : Nat} {tbit trst : Half} (hmax : nPix ≤ 256) (hn : n ≤ burstTotal nPix tbit trst) :
    (BitVec.ofNat 32 n).toNat = n :=
  Nat.mod_eq_of_lt (hn.trans_lt (burstTotal_lt tbit trst hmax))

theorem ltOfCycles_succ (n : Nat) : BitVec.ofNat 32 n + 1 = BitVec.ofNat 32 (n + 1) := (BitVec.ofNat_add ..).symm

section
variable {s : State} (hb : s.lbusy = true) (hlt : s.lt = 0) (hwf : s.cfg.wf) {n : Nat}
include hb hlt hwf

/-- R202: before its last cycle a burst has changed nothing but LT, and the output. -/
theorem State.iterate_clkOnce_running (hn : n < burstTotal s.cfg.nPix s.ltbit s.ltrst) :
    ∃ o, State.clkOnce^[n] s = { s with lt := BitVec.ofNat 32 n, out := o } := by
  induction n with
  | zero =>
    have h0 : BitVec.ofNat 32 0 = s.lt := hlt.symm
    rw [h0]
    exact ⟨s.out, rfl⟩
  | succ n ih =>
    obtain ⟨o, ho⟩ := ih (Nat.lt_of_succ_lt hn)
    have hne : (BitVec.ofNat 32 n + 1).toNat ≠ burstTotal s.cfg.nPix s.ltbit s.ltrst := by
      rw [ltOfCycles_succ, ltOfCycles_toNat hwf.2 hn.le]
      exact hn.ne
    rw [Function.iterate_succ_apply', ho,
      State.clkOnce_advances (s := { s with lt := BitVec.ofNat 32 n, out := o }) hb hne, ltOfCycles_succ]
    exact ⟨_, rfl⟩

/-- R194, R202: the last cycle of a burst ends it and sets LDONE. -/
theorem State.iterate_clkOnce_total (hn : n + 1 = burstTotal s.cfg.nPix s.ltbit s.ltrst) :
    ∃ o, State.clkOnce^[n + 1] s =
      { s with out := o, lt := 0, lbusy := false, irqPend := s.irqPend ||| irqLdone } := by
  obtain ⟨o, ho⟩ := State.iterate_clkOnce_running hb hlt hwf (n := n) (by omega)
  have heq : (BitVec.ofNat 32 n + 1).toNat = burstTotal s.cfg.nPix s.ltbit s.ltrst := by
    rw [ltOfCycles_succ, ltOfCycles_toNat hwf.2 hn.le, hn]
  rw [Function.iterate_succ_apply', ho,
    State.clkOnce_ends (s := { s with lt := BitVec.ofNat 32 n, out := o }) hb heq]
  exact ⟨_, rfl⟩

/-- R193, R202: the level that the CLK after n CLKs returns. -/
theorem State.iterate_clkOnce_out (hn : n < burstTotal s.cfg.nPix s.ltbit s.ltrst) :
    (State.clkOnce^[n] s).clkOnce.out =
      .lineLevel (burstLevel s.cfg.nPix s.lbits s.lt0h s.lt1h s.ltbit n) := by
  obtain ⟨o, ho⟩ := State.iterate_clkOnce_running hb hlt hwf hn
  rw [State.clkOnce_out, ho, State.ledDout, hb, Bool.true_and, ltOfCycles_toNat hwf.2 hn.le]

end

/-- R202: n CLK operations are n cycles. -/
theorem runInstrs_clk (n : Nat) (s : State) : runInstrs (List.replicate n .clk) s = .next (State.clkOnce^[n] s) :=
  runInstrs_replicate exec_clk n s

/-- Settles O50: the state of the running burst below the total, and the last cycle at it. -/
theorem acceptedBurstLastsTotalClks : Obligations.AcceptedBurstLastsTotalClks := by
  unfold Obligations.AcceptedBurstLastsTotalClks
  intro s t v hwf hb hv he ht total n hle
  obtain ⟨htim, rfl⟩ := requestAccepted_of_busy_after hb hv he ht
  refine ⟨_, runInstrs_clk n _, fun hn => ?_, fun hn => ?_⟩
  · obtain ⟨o, ho⟩ := State.iterate_clkOnce_running (s := s.requestAccepted v) rfl rfl hwf hn
    rw [ho]
    exact ⟨rfl, ltOfCycles_toNat hwf.2 hle, rfl⟩
  · obtain ⟨_, _, _, hrst⟩ := (timingOk_iff ..).1 htim
    obtain ⟨m, rfl⟩ := Nat.exists_eq_add_one.2 (hn ▸ Nat.add_pos_right _ hrst : 0 < n)
    obtain ⟨o, ho⟩ := State.iterate_clkOnce_total (s := s.requestAccepted v) rfl rfl hwf hn
    rw [ho]
    exact ⟨rfl, rfl, rfl⟩

/-! ### The waveform (R67, R191-R193, R203) -/

/-- Settles O51: the burst runs on the latched bits and timing; a data cycle lies in the period of its bit, a cycle
past the last bit in the reset interval. -/
theorem burstWaveformSendsPixels : Obligations.BurstWaveformSendsPixels := by
  unfold Obligations.BurstWaveformSendsPixels
  intro s t v hinv hb hv he ht
  obtain ⟨_, rfl⟩ := requestAccepted_of_busy_after hb hv he ht
  have hout {n : Nat} (hn : n < burstTotal s.cfg.nPix s.ledTbit s.ledTrst) :=
    State.iterate_clkOnce_out (s := s.requestAccepted v) rfl rfl hinv.config hn
  refine ⟨fun i c k j p hi hc hk hj hram hlight => ?_, fun j hj => ?_⟩
  · rw [← renderPixel_eq] at hlight
    have hlatched := State.requestAccepted_lbits_getElem? hram hlight hi hc hk
    have hbit : 24 * i + (8 * c + k) < burstBits s.cfg.nPix := by rw [burstBits]; omega
    have hlevel := burstLevel_data (lbits := (s.requestAccepted v).lbits) (t0h := s.ledT0h) (t1h := s.ledT1h) hbit hj
    rw [highTime_of_getElem? hlatched] at hlevel
    refine ⟨_, _, runInstrs_clk _ _, exec_clk _, ?_⟩
    rw [Nat.add_assoc, hout (Nat.lt_add_right _ (dataCycle_lt hbit hj))]
    exact congrArg Output.lineLevel hlevel
  · refine ⟨_, _, runInstrs_clk _ _, exec_clk _, ?_⟩
    have hn : 24 * s.cfg.nPix * s.ledTbit.toNat + j < burstTotal s.cfg.nPix s.ledTbit s.ledTrst :=
      Nat.add_lt_add_left hj _
    rw [hout hn]
    exact congrArg Output.lineLevel (burstLevel_reset j)

end Sys2Proof.Machine
end

section
/-! SUPPORT. The encoder against every other operation (R198, R212, R214): while BUSY no operation but CLK and RESET
touches the burst, the pixel RAM or the timing registers. -/

namespace Sys2Proof.Machine

/-! ### The operations that touch the encoder -/

/-- What R214 protects while a burst runs: the burst itself, the pixel RAM and the timing registers. N_PIX stands with
them, since the level of the line depends on it. -/
structure Encoder where
  nPix : Nat
  lbusy : Bool
  lt : Word
  lbits : List Bool
  lt0h : Half
  lt1h : Half
  ltbit : Half
  ltrst : Half
  pix : Memory
  ledT0h : Half
  ledT1h : Half
  ledTbit : Half
  ledTrst : Half

def State.encoder (s : State) : Encoder :=
  { nPix := s.cfg.nPix, lbusy := s.lbusy, lt := s.lt, lbits := s.lbits, lt0h := s.lt0h, lt1h := s.lt1h,
    ltbit := s.ltbit, ltrst := s.ltrst, pix := s.pix, ledT0h := s.ledT0h, ledT1h := s.ledT1h, ledTbit := s.ledTbit,
    ledTrst := s.ledTrst }

theorem encoder_eq_iff {s t : State} : t.encoder = s.encoder ↔
    t.cfg.nPix = s.cfg.nPix ∧ t.lbusy = s.lbusy ∧ t.lt = s.lt ∧ t.lbits = s.lbits ∧ t.lt0h = s.lt0h ∧
      t.lt1h = s.lt1h ∧ t.ltbit = s.ltbit ∧ t.ltrst = s.ltrst ∧ t.pix = s.pix ∧ t.ledT0h = s.ledT0h ∧
      t.ledT1h = s.ledT1h ∧ t.ledTbit = s.ledTbit ∧ t.ledTrst = s.ledTrst :=
  Encoder.mk.injEq .. ▸ Iff.rfl

/-- R193: the level of the line is read off the encoder. -/
theorem ledDout_of_encoder_eq {s t : State} (h : t.encoder = s.encoder) : t.ledDout = s.ledDout := by
  obtain ⟨hpix, hbusy, hlt, hbits, h0h, h1h, hbit, -⟩ := encoder_eq_iff.1 h
  rw [State.ledDout, State.ledDout, hpix, hbusy, hlt, hbits, h0h, h1h, hbit]

section
variable (s : State)

theorem State.takeRecord_encoder : s.takeRecord.encoder = s.encoder := by
  rcases s.takeRecord_cases with ⟨_, h⟩ | ⟨_, h⟩ <;> rw [h]
  rfl

theorem State.publish_encoder : s.publish.encoder = s.encoder := by
  simp only [State.publish_eq, State.encoder]

theorem State.rxByte_encoder (d : Byte) : (s.rxByte d).encoder = s.encoder := by
  rcases s.rxByte_cases d with ⟨_, _, h⟩ | ⟨_, _, h⟩ | ⟨_, _, h⟩ | ⟨_, _, h⟩ | ⟨_, _, h⟩ | ⟨_, _, _, h⟩ |
    ⟨_, _, _, h⟩ <;> rw [h]
  · rfl
  · rfl
  · rfl
  · rfl
  · exact (s.bufferByte 31 d).publish_encoder
  · rfl

theorem State.arbStep_encoder : s.arbStep.encoder = s.encoder := by simp [State.encoder]

end

section
variable {s : State} (hb : s.lbusy = true)
include hb

/-- R196: while BUSY a request is dropped. -/
theorem State.writeLedCtrl_encoder_of_busy (v : Word) : (s.writeLedCtrl v).encoder = s.encoder := by
  rcases s.writeLedCtrl_cases v with ⟨_, h⟩ | ⟨_, h⟩ <;> rw [h]
  · rfl
  · rcases ({ s with pixsrc := v.getLsbD 1 } : State).refreshRequest_cases with ⟨_, e⟩ | ⟨hidle, _⟩ | ⟨hidle, _⟩
    · rw [e]
      rfl
    · exact absurd (hb.symm.trans hidle) nofun
    · exact absurd (hb.symm.trans hidle) nofun

/-- R212: while BUSY a pixel write is dropped. -/
theorem State.writePixelSlot_encoder_of_busy (i : BitVec 8) (v : Word) :
    (s.writePixelSlot i v).encoder = s.encoder := by
  rcases s.writePixelSlot_cases i v with ⟨_, h⟩ | ⟨_, _, h⟩ | ⟨_, hidle, _⟩
  · rw [h]
    rfl
  · rw [h]
    rfl
  · exact absurd (hb.symm.trans hidle) nofun

/-- R204-R210: while BUSY a timing write is dropped, its store t not made. -/
theorem State.dropWrite_or_encoder_of_busy (t : State) :
    (if s.lbusy then s.dropWrite else t).encoder = s.encoder := by
  rw [if_pos hb]
  rfl

end

/-- R214: while BUSY the encoder is left alone by every operation but CLK and RESET. -/
theorem exec_encoder_of_busy {i : Instr} {s t : State} (hb : s.lbusy = true) (h : exec i s = .next t)
    (hclk : i ≠ .clk) (hreset : i ≠ .reset) : t.encoder = s.encoder := by
  rcases exec_next_cases h with ⟨_, _, rfl⟩ | ⟨_, rfl⟩ | ⟨_, rfl⟩ | ⟨d, _, rfl⟩ | ⟨_, _, rfl⟩ | ⟨_, _, rfl⟩ |
    ⟨_, _, rfl⟩ | ⟨_, rfl⟩ | ⟨v, _, rfl⟩ | ⟨_, _, rfl⟩ | ⟨_, _, rfl⟩ | ⟨_, _, rfl⟩ | ⟨_, _, rfl⟩ | ⟨_, _, rfl⟩ |
    ⟨n, v, _, rfl⟩ | ⟨_, _, rfl⟩ | ⟨_, _, rfl⟩ | ⟨hi, _⟩ | ⟨hi, _⟩
  · rfl
  · rfl
  · exact (s.returns (mbStatWord s.ovr s.fresh)).takeRecord_encoder
  · exact s.rxByte_encoder d
  · rfl
  · rfl
  · exact s.arbStep_encoder
  · rfl
  · exact State.writeLedCtrl_encoder_of_busy hb v
  · rfl
  · exact State.dropWrite_or_encoder_of_busy hb _
  · exact State.dropWrite_or_encoder_of_busy hb _
  · exact State.dropWrite_or_encoder_of_busy hb _
  · exact State.dropWrite_or_encoder_of_busy hb _
  · exact State.writePixelSlot_encoder_of_busy hb n v
  · rfl
  · rfl
  · exact absurd hi hclk
  · exact absurd hi hreset

/-- Settles O52: the whole encoder stays, and the level of the line with it. -/
theorem onlyClkAndResetTouchBurst : Obligations.OnlyClkAndResetTouchBurst := by
  unfold Obligations.OnlyClkAndResetTouchBurst
  intro i s t hb he hclk hreset
  have hsame := exec_encoder_of_busy hb he hclk hreset
  obtain ⟨_, hbusy, hlt, hbits, h0h, h1h, hbit, hrst, hpix, ht0h, ht1h, htbit, htrst⟩ := encoder_eq_iff.1 hsame
  exact ⟨hbusy.trans hb, hbits, hlt, h0h, h1h, hbit, hrst, ledDout_of_encoder_eq hsame, hpix, ht0h, ht1h, htbit, htrst⟩

end Sys2Proof.Machine
end

section
/-! SUPPORT. The ignored accesses, to reserved offsets and to read-only registers (R236-R238), and the identification
and interrupt registers (R231-R235, R254). -/

namespace Sys2Proof.Machine

/-! ### Reserved offsets (R88, R237, R238) -/

/-- R237, R238: a read of the offset off returns 0, a write to it does nothing, and both signal X7. -/
def IgnoresAccesses (off : Offset) : Prop :=
  (∀ s, exec (decodeRead off) s = .next s.ignoreRead) ∧ ∀ v s, exec (decodeWrite off v) s = .next s.ignoreWrite

/-- An offset ignores accesses when the meanings of its two rows do. -/
theorem OffsetRow.ignoresAccesses {off off' : Offset} {rd : Instr} {wr : Word → Instr} (h : OffsetRow off' rd wr)
    (e : off.toNat = off'.toNat) (hrd : ∀ s, exec rd s = .next s.ignoreRead)
    (hwr : ∀ v s, exec (wr v) s = .next s.ignoreWrite) : IgnoresAccesses off := by
  obtain rfl := BitVec.eq_of_toNat_eq e
  refine ⟨fun s => ?_, fun v s => ?_⟩
  · rw [h.decodeRead_eq, hrd]
  · rw [h.decodeWrite_eq, hwr]

theorem offsetRow_reserved00C : OffsetRow 0x00C#12 .rdReserved00C .wrReserved00C :=
  ⟨rfl, fun _ => rfl, rfl, fun _ => rfl, fun _ => ⟨⟨_, rfl⟩, fun _ => ⟨_, rfl⟩⟩⟩

/-- R88: the seven reserved rows, by their ranges. -/
theorem ignoresAccesses_of_reserved {off : Offset} (halign : off.toNat % 4 = 0)
    (h : off.toNat = 0x00C ∨ (0x090 ≤ off.toNat ∧ off.toNat ≤ 0x3FC) ∨ 0x800 ≤ off.toNat) : IgnoresAccesses off := by
  have ranges : off.toNat = 0x00C ∨ 0x090 ≤ off.toNat ∧ off.toNat < 0x0A0 ∨ 0x0A0 ≤ off.toNat ∧ off.toNat < 0x0C0 ∨
      0x0C0 ≤ off.toNat ∧ off.toNat < 0x100 ∨ 0x100 ≤ off.toNat ∧ off.toNat < 0x200 ∨
      0x200 ≤ off.toNat ∧ off.toNat < 0x400 ∨ 0x800 ≤ off.toNat := by
    omega
  have hlt := off.isLt
  rcases ranges with hr | hr | hr | hr | hr | hr | hr
  on_goal 1 => refine offsetRow_reserved00C.ignoresAccesses ?_ (fun _ => rfl) (fun _ _ => rfl)
  on_goal 2 => refine (offsetRow_reserved090 (off.extractLsb' 2 2)).ignoresAccesses ?_ (fun _ => rfl) (fun _ _ => rfl)
  on_goal 3 => refine (offsetRow_reserved0A0 (off.extractLsb' 2 3)).ignoresAccesses ?_ (fun _ => rfl) (fun _ _ => rfl)
  on_goal 4 => refine (offsetRow_reserved0C0 (off.extractLsb' 2 4)).ignoresAccesses ?_ (fun _ => rfl) (fun _ _ => rfl)
  on_goal 5 => refine (offsetRow_reserved100 (off.extractLsb' 2 6)).ignoresAccesses ?_ (fun _ => rfl) (fun _ _ => rfl)
  on_goal 6 => refine (offsetRow_reserved200 (off.extractLsb' 2 7)).ignoresAccesses ?_ (fun _ => rfl) (fun _ _ => rfl)
  on_goal 7 => refine (offsetRow_reserved800 (off.extractLsb' 2 9)).ignoresAccesses ?_ (fun _ => rfl) (fun _ _ => rfl)
  all_goals
    simp only [toNat_concat, extract_toNat, BitVec.toNat_ofNat]
    omega

/-- R81: an aligned descriptor has an aligned offset. -/
theorem offset_aligned_of_desc {d : Desc} (h : d.extractLsb' 0 2 = 0b00#2) : (d.extractLsb' 0 12).toNat % 4 = 0 := by
  have h' := congrArg BitVec.toNat h
  simp only [extract_toNat, BitVec.toNat_ofNat] at h' ⊢
  omega

/-- Settles O14: an aligned offset of these ranges is met by a reserved row, and every reserved row is ignored. -/
theorem reservedOffsetIsIgnored : Obligations.ReservedOffsetIsIgnored := by
  unfold Obligations.ReservedOffsetIsIgnored
  refine ⟨fun op s halign hrange => ?_, fun s x2 x3 x4 x6 x7 x9 => ?_, fun s v x2 x3 x4 x6 x7 x9 => ?_⟩
  · obtain ⟨hrd, hwr⟩ := ignoresAccesses_of_reserved (offset_aligned_of_desc halign) hrange
    refine ⟨fun hread => ?_, fun hwrite => ?_⟩
    · rw [decode_of_read hread]
      exact hrd s
    · rw [decode_of_write hwrite]
      exact hwr op.wdata s
  · simp only [List.forall_mem_cons]
    exact ⟨rfl, rfl, rfl, rfl, rfl, rfl, rfl, List.forall_mem_nil _⟩
  · simp only [List.forall_mem_cons]
    exact ⟨rfl, rfl, rfl, rfl, rfl, rfl, rfl, List.forall_mem_nil _⟩

/-! ### Read-only registers (R236) -/

/-- Settles O15: register by register, its descriptor looked up and its write ignored. -/
theorem readOnlyRegisterWriteIsIgnored : Obligations.ReadOnlyRegisterWriteIsIgnored := by
  unfold Obligations.ReadOnlyRegisterWriteIsIgnored
  intro s v
  iterate 24
    refine List.forall_mem_cons.2 ⟨⟨rfl, rfl⟩, ?_⟩
  exact List.forall_mem_nil _

/-! ### Identification and the interrupt registers (R231-R235, R254) -/

/-- Settles O16: the read returns idWord whatever the state. -/
theorem idReadsConstant : Obligations.IdReadsConstant := by
  unfold Obligations.IdReadsConstant
  exact fun _ => ⟨rfl, rfl⟩

/-- Settles O17: each read returns its three bits as a number. -/
theorem interruptRegisterReads : Obligations.InterruptRegisterReads := by
  unfold Obligations.InterruptRegisterReads
  exact fun _ => ⟨⟨_, rfl, irqWord_toNat _⟩, ⟨_, rfl, irqWord_toNat _⟩, rfl, rfl⟩

/-- R86: the bits a write to IRQ_PEND or IRQ_EN takes. -/
theorem writeIrq_getLsbD (v : Word) {b : Nat} (hb : b < 3) : (writeIrq v).getLsbD b = v.getLsbD b := by
  simp [writeIrq, hb]

/-- R233: write 1 to clear, bit by bit. -/
theorem clearOnes_getLsbD (pend ones : BitVec 3) {b : Nat} (hb : b < 3) :
    (clearOnes pend ones).getLsbD b = (pend.getLsbD b && !ones.getLsbD b) := by
  simp [clearOnes, hb]

/-- R254: the request line is high exactly when some pending bit is enabled. -/
theorem irqLine_iff (pend en : BitVec 3) :
    irqLine pend en = true ↔ ∃ b, b < 3 ∧ pend.getLsbD b = true ∧ en.getLsbD b = true := by
  simp only [irqLine, Bool.or_eq_true, Bool.and_eq_true]
  constructor
  · rintro ((h | h) | h)
    · exact ⟨0, by decide, h⟩
    · exact ⟨1, by decide, h⟩
    · exact ⟨2, by decide, h⟩
  · rintro ⟨b, hb, h⟩
    interval_cases b
    · exact .inl (.inl h)
    · exact .inl (.inr h)
    · exact .inr h

/-- Settles O18: the write clears by clearOnes, and the bits it takes are those of the write data. -/
theorem interruptAcknowledgeClearsOnes : Obligations.InterruptAcknowledgeClearsOnes := by
  unfold Obligations.InterruptAcknowledgeClearsOnes
  refine fun s v => ⟨rfl, { s with irqPend := clearOnes s.irqPend (writeIrq v) }, rfl, rfl, fun b hb => ?_⟩
  rw [clearOnes_getLsbD _ _ hb, writeIrq_getLsbD v hb]

/-- Settles O19: the line reads the pending bits of s and the enables just written. -/
theorem interruptEnableDrivesRequestLine : Obligations.InterruptEnableDrivesRequestLine := by
  unfold Obligations.InterruptEnableDrivesRequestLine
  refine fun s v => ⟨rfl, { s with irqEn := writeIrq v }, rfl, rfl, fun b hb => writeIrq_getLsbD v hb, ?_⟩
  rw [State.irqO, irqLine_iff]
  refine exists_congr fun b => and_congr_right fun hb => ?_
  rw [writeIrq_getLsbD v hb]

end Sys2Proof.Machine
end

section
/-! SUPPORT. The block neither waits nor faults (R74, R252): an operation that the table does not refuse answers a next
state. -/

namespace Sys2Proof.Machine

/-- R82, R83: the descriptor d is reserved: Z is not 00, CLS is 11, or it is a port event with an event id from 4. -/
def DescReserved (d : Desc) : Prop :=
  d.extractLsb' 12 2 ≠ 0b00#2 ∨ d.extractLsb' 14 2 = 0b11#2 ∨
    (d.extractLsb' 14 2 = 0b10#2 ∧ 4 ≤ (d.extractLsb' 0 12).toNat)

/-- R81: with Z = 00 the class alone says what stands in the top four bits. -/
theorem top_bits_of_z_zero : ∀ top : BitVec 4, top.extractLsb' 0 2 = 0b00#2 → top.extractLsb' 2 2 ≠ 0b11#2 →
    (top = 0b0000#4 ∨ top = 0b0100#4) ∨ top.extractLsb' 2 2 = 0b10#2 ∧ top = 0b1000#4 := by
  decide

/-- O3's last two clauses as one: a descriptor that is not reserved names an operation that completes. -/
theorem exec_decode_completes {op : Op} (h : ¬ DescReserved op.desc) (s : State) :
    ∃ t, exec (decode op) s = .next t := by
  obtain ⟨hz, hcls, hevt⟩ : op.desc.extractLsb' 12 2 = 0b00#2 ∧ op.desc.extractLsb' 14 2 ≠ 0b11#2 ∧
      (op.desc.extractLsb' 14 2 = 0b10#2 → ¬ 4 ≤ (op.desc.extractLsb' 0 12).toNat) := by
    simpa only [DescReserved, not_or, not_not, not_and] using h
  rw [(desc_high_fields op.desc).1] at hcls hevt
  rw [desc_z_field] at hz
  obtain ⟨-, -, -, hevent, hbus⟩ := exactlyReservedDescriptorsAreRefused op s
  rcases top_bits_of_z_zero _ hz hcls with htop | ⟨hten, htop⟩
  · exact hbus htop
  · exact hevent htop (Nat.lt_of_not_le (hevt hten))

/-- The terms that no descriptor decodes to are among the rows refused for their Z (log entry 13). -/
theorem encode_z_ne_zero_of_not_wellFormed {i : Instr} (h : i.wellFormed = false) :
    (encode i).desc.extractLsb' 12 2 ≠ 0b00#2 := by
  cases i with
  | refusedZ01 cls off => simp [encode, extract_concat_high, extract_concat_low]
  | refusedZ1x cls z0 off =>
    intro hz
    have hz' := congrArg BitVec.toNat hz
    simp only [encode, extract_toNat, toNat_concat, BitVec.toNat_ofNat] at hz'
    omega
  | _ => cases h

/-- A term whose own descriptor is not reserved is the decoding of it, and so completes. -/
theorem exec_completes_of_encode {i : Instr} (h : ¬ DescReserved (encode i).desc) (s : State) :
    ∃ t, exec i s = .next t := by
  cases hwf : i.wellFormed with
  | true =>
    obtain ⟨t, ht⟩ := exec_decode_completes h s
    rw [decodeOfEncodeIsIdentity i hwf] at ht
    exact ⟨t, ht⟩
  | false => exact absurd (.inl (encode_z_ne_zero_of_not_wellFormed hwf)) h

/-- Settles O7: what does not complete is refused with its own descriptor, and that is then a reserved one. -/
theorem everyOperationCompletes : Obligations.EveryOperationCompletes := by
  unfold Obligations.EveryOperationCompletes
  intro i s
  by_cases hnext : ∃ t, exec i s = .next t
  · exact .inl hnext
  · have hreserved : DescReserved (encode i).desc :=
      by_contra fun h => hnext (exec_completes_of_encode h s)
    exact .inr ⟨(exec_total i s).resolve_left hnext, hreserved⟩

end Sys2Proof.Machine
end

section
/-! SUPPORT. The bits of IRQ_PEND (R44, R253): which operations set one, and which clear one. -/

namespace Sys2Proof.Machine

/-! ### What each shared operation does to IRQ_PEND -/

section
variable (s : State)

theorem State.takeRecord_irqPend : s.takeRecord.irqPend = s.irqPend := by
  rcases s.takeRecord_cases with ⟨_, h⟩ | ⟨_, h⟩ <;> rw [h]

theorem State.publish_irqPend : s.publish.irqPend = s.irqPend ||| irqRec := by rw [State.publish_eq]

theorem State.rxByte_irqPend (d : Byte) :
    (s.rxByte d).irqPend = s.irqPend ∨ (s.rxByte d).irqPend = s.irqPend ||| irqRec := by
  rcases s.rxByte_cases d with ⟨_, _, h⟩ | ⟨_, _, h⟩ | ⟨_, _, h⟩ | ⟨_, _, h⟩ | ⟨_, _, h⟩ | ⟨_, _, _, h⟩ |
    ⟨_, _, _, h⟩ <;> rw [h]
  · exact .inl rfl
  · exact .inl rfl
  · exact .inl rfl
  · exact .inl rfl
  · exact .inl rfl
  · exact .inr (s.bufferByte 31 d).publish_irqPend
  · exact .inl rfl

theorem State.writeLedCtrl_irqPend (v : Word) : (s.writeLedCtrl v).irqPend = s.irqPend := by
  rcases s.writeLedCtrl_cases v with ⟨_, h⟩ | ⟨_, h⟩ <;> rw [h]
  rcases ({ s with pixsrc := v.getLsbD 1 } : State).refreshRequest_cases with ⟨_, e⟩ | ⟨_, _, e⟩ | ⟨_, _, e⟩ <;>
    rw [e]
  rfl

theorem State.writePixelSlot_irqPend (i : BitVec 8) (v : Word) : (s.writePixelSlot i v).irqPend = s.irqPend := by
  rcases s.writePixelSlot_cases i v with ⟨_, h⟩ | ⟨_, _, h⟩ | ⟨_, _, h⟩ <;> rw [h] <;> rfl

theorem State.clkOnce_irqPend : s.clkOnce.irqPend = s.irqPend ∨ s.clkOnce.irqPend = s.irqPend ||| irqLdone := by
  rcases s.clkOnce_cases with ⟨_, h⟩ | ⟨_, _, h⟩ | ⟨_, _, h⟩ <;> rw [h]
  · exact .inl rfl
  · exact .inl rfl
  · exact .inr rfl

theorem State.arbStep_irqPend_cases :
    s.arbStep.irqPend = s.irqPend ∨ s.arbStep.irqPend = s.irqPend ||| irqStale := by
  rw [State.arbStep_irqPend]
  exact (ite_eq_or_eq ..).symm

/-- R204-R210: a timing write is dropped while BUSY; its store is t. -/
theorem State.dropWrite_or_irqPend {t : State} (h : t.irqPend = s.irqPend) :
    (if s.lbusy then s.dropWrite else t).irqPend = s.irqPend := by
  cases s.lbusy
  · exact h
  · rfl

end

/-- Everything an operation can do to IRQ_PEND. -/
theorem exec_irqPend_cases {i : Instr} {s t : State} (h : exec i s = .next t) :
    t.irqPend = s.irqPend ∨
    (∃ d, i = .rx d ∧ t.irqPend = s.irqPend ||| irqRec) ∨
    (i = .clk ∧ t.irqPend = s.irqPend ||| irqLdone) ∨
    (∃ v, i = .wrArbStep v ∧ t.irqPend = s.irqPend ||| irqStale) ∨
    (∃ v, i = .wrIrqPend v ∧ t.irqPend = clearOnes s.irqPend (writeIrq v)) ∨
    (i = .reset ∧ t.irqPend = 0) := by
  rcases exec_next_cases h with ⟨_, _, rfl⟩ | ⟨_, rfl⟩ | ⟨_, rfl⟩ | ⟨d, hi, rfl⟩ | ⟨_, _, rfl⟩ | ⟨_, _, rfl⟩ |
    ⟨v, hi, rfl⟩ | ⟨_, rfl⟩ | ⟨v, _, rfl⟩ | ⟨_, _, rfl⟩ | ⟨_, _, rfl⟩ | ⟨_, _, rfl⟩ | ⟨_, _, rfl⟩ | ⟨_, _, rfl⟩ |
    ⟨n, v, _, rfl⟩ | ⟨v, hi, rfl⟩ | ⟨_, _, rfl⟩ | ⟨hi, rfl⟩ | ⟨hi, rfl⟩
  · exact .inl rfl
  · exact .inl rfl
  · exact .inl (s.returns (mbStatWord s.ovr s.fresh)).takeRecord_irqPend
  · exact (s.rxByte_irqPend d).imp_right fun h => .inl ⟨d, hi, h⟩
  · exact .inl rfl
  · exact .inl rfl
  · exact s.arbStep_irqPend_cases.imp_right fun h => .inr (.inr (.inl ⟨v, hi, h⟩))
  · exact .inl rfl
  · exact .inl (s.writeLedCtrl_irqPend v)
  · exact .inl rfl
  · exact .inl (s.dropWrite_or_irqPend rfl)
  · exact .inl (s.dropWrite_or_irqPend rfl)
  · exact .inl (s.dropWrite_or_irqPend rfl)
  · exact .inl (s.dropWrite_or_irqPend rfl)
  · exact .inl (s.writePixelSlot_irqPend n v)
  · exact .inr (.inr (.inr (.inr (.inl ⟨v, hi, rfl⟩))))
  · exact .inl rfl
  · exact s.clkOnce_irqPend.imp_right fun h => .inr (.inl ⟨hi, h⟩)
  · exact .inr (.inr (.inr (.inr (.inr ⟨hi, rfl⟩))))

/-! ### Bit by bit -/

section
variable {pend m : BitVec 3} {b : Nat}

/-- An event sets no bit but its own. -/
theorem getLsbD_of_risen_or (h : (pend ||| m).getLsbD b = true) (h0 : pend.getLsbD b = false) :
    m.getLsbD b = true := by
  rwa [BitVec.getLsbD_or, h0, Bool.false_or] at h

/-- An event clears nothing. -/
theorem getLsbD_or_of_pending (h : pend.getLsbD b = true) : (pend ||| m).getLsbD b = true := by
  rw [BitVec.getLsbD_or, h, Bool.true_or]

/-- R233: an acknowledge sets nothing. -/
theorem getLsbD_of_clearOnes (hb : b < 3) (h : (clearOnes pend m).getLsbD b = true) : pend.getLsbD b = true := by
  rw [clearOnes_getLsbD _ _ hb, Bool.and_eq_true] at h
  exact h.1

/-- R233: a pending bit that an acknowledge clears was written 1. -/
theorem getLsbD_of_fallen_clearOnes (hb : b < 3) (h : pend.getLsbD b = true)
    (h0 : (clearOnes pend m).getLsbD b = false) : m.getLsbD b = true := by
  rwa [clearOnes_getLsbD _ _ hb, h, Bool.true_and, Bool.not_eq_false'] at h0

end

/-- R253: what an operation sets in IRQ_PEND is the bit of its own event. -/
theorem exec_irqPend_risen {i : Instr} {s t : State} {b : Nat} (h : exec i s = .next t) (hb : b < 3)
    (h1 : t.irqPend.getLsbD b = true) (h0 : s.irqPend.getLsbD b = false) :
    (irqRec.getLsbD b = true ∧ ∃ d, i = .rx d) ∨ (irqLdone.getLsbD b = true ∧ i = .clk) ∨
      (irqStale.getLsbD b = true ∧ ∃ v, i = .wrArbStep v) := by
  rcases exec_irqPend_cases h with e | ⟨d, hi, e⟩ | ⟨hi, e⟩ | ⟨v, hi, e⟩ | ⟨v, _, e⟩ | ⟨_, e⟩ <;> rw [e] at h1
  · exact absurd (h1.symm.trans h0) nofun
  · exact .inl ⟨getLsbD_of_risen_or h1 h0, d, hi⟩
  · exact .inr (.inl ⟨getLsbD_of_risen_or h1 h0, hi⟩)
  · exact .inr (.inr ⟨getLsbD_of_risen_or h1 h0, v, hi⟩)
  · exact absurd ((getLsbD_of_clearOnes hb h1).symm.trans h0) nofun
  · exact absurd (h1.symm.trans BitVec.getLsbD_zero) nofun

/-- R253: only RESET and a write of 1 clear a bit of IRQ_PEND. -/
theorem exec_irqPend_fallen {i : Instr} {s t : State} {b : Nat} (h : exec i s = .next t) (hb : b < 3)
    (h1 : s.irqPend.getLsbD b = true) (h0 : t.irqPend.getLsbD b = false) :
    i = .reset ∨ ∃ v, i = .wrIrqPend v ∧ v.getLsbD b = true := by
  rcases exec_irqPend_cases h with e | ⟨_, _, e⟩ | ⟨_, e⟩ | ⟨_, _, e⟩ | ⟨v, hi, e⟩ | ⟨hi, e⟩ <;> rw [e] at h0
  · exact absurd (h1.symm.trans h0) nofun
  · exact absurd ((getLsbD_or_of_pending h1).symm.trans h0) nofun
  · exact absurd ((getLsbD_or_of_pending h1).symm.trans h0) nofun
  · exact absurd ((getLsbD_or_of_pending h1).symm.trans h0) nofun
  · have hv := getLsbD_of_fallen_clearOnes hb h1 h0
    rw [writeIrq_getLsbD v hb] at hv
    exact .inr ⟨v, hi, hv⟩
  · exact .inl hi

/-- Settles O20: each of the three bits is the bit of one event only. -/
theorem pendingBitsHaveOneSourceEach : Obligations.PendingBitsHaveOneSourceEach := by
  unfold Obligations.PendingBitsHaveOneSourceEach
  intro i s t h
  refine ⟨fun h1 h0 => ?_, fun h1 h0 => ?_, fun h1 h0 => ?_, fun b hb => exec_irqPend_fallen h hb⟩
  · simpa [irqRec, irqLdone, irqStale] using exec_irqPend_risen h (by decide) h1 h0
  · simpa [irqRec, irqLdone, irqStale] using exec_irqPend_risen h (by decide) h1 h0
  · simpa [irqRec, irqLdone, irqStale] using exec_irqPend_risen h (by decide) h1 h0

end Sys2Proof.Machine
end

section
/-! SUPPORT. A clock cycle out of reset (R255, D5): its operations run one by one, and the events that come after an
acknowledge in it. -/

namespace Sys2Proof.Machine

/-! ### The operations of the cycle -/

theorem decode_acknowledge (v : Word) :
    decode (BusAccess.op { write := true, addr := 0x088#12, wdata := v }) = .wrIrqPend v :=
  (decode_write_desc (d := 0b0100#4 ++ 0x088#12) v 0 (by decide)).trans rfl

theorem decode_rxOp (d : Byte) : decode (rxOp d) = .rx d := (decode_event_desc 0 d (by decide)).trans rfl

/-- The host's run takes the first presented operation. -/
theorem core_run_presented {op : Op} {rest : List Op} {s t : State} (hp : s.pending = op :: rest)
    (he : exec (decode op) (s.startOp rest) = .next t) :
    Sys2Proof.core.run (op :: rest).length s = Sys2Proof.core.run rest.length t :=
  core_run_succ ((step_presented hp).trans he)

/-- R255: the operations that the TICK port gives a cycle. -/
abbrev tickOps (tick : Bool) : List Op := if tick then [tickOp] else []

/-- R162, R255: the state after the TICK pulse of a cycle, if there is one, with rest still to come. -/
def State.pulse (s : State) (tick : Bool) (rest : List Op) : State :=
  if tick then (s.startOp rest).tickOnce else s

section
variable {s : State} (tick : Bool) {rest : List Op}

theorem State.pulse_encoder : (s.pulse tick rest).encoder = s.encoder := by cases tick <;> rfl
theorem State.pulse_fresh : (s.pulse tick rest).fresh = s.fresh := by cases tick <;> rfl
theorem State.pulse_irqPend : (s.pulse tick rest).irqPend = s.irqPend := by cases tick <;> rfl

theorem State.pulse_tick : (s.pulse tick rest).tick.toNat = (s.tick.toNat + tick.toNat) % 2 ^ 32 := by
  cases tick
  · exact (Nat.mod_eq_of_lt s.tick.isLt).symm
  · exact BitVec.toNat_add s.tick 1

theorem State.pulse_pending (hp : s.pending = tickOps tick ++ rest) : (s.pulse tick rest).pending = rest := by
  cases tick
  · exact hp
  · rfl

theorem core_run_pulse (hp : s.pending = tickOps tick ++ rest) :
    Sys2Proof.core.run (tickOps tick ++ rest).length s = Sys2Proof.core.run rest.length (s.pulse tick rest) := by
  cases tick
  · rfl
  · exact core_run_presented hp rfl

end

/-! ### A cycle with an acknowledge and a received byte -/

/-- The state after the acknowledge and the byte of a cycle, with rest still to come. -/
def State.ackRx (s : State) (v : Word) (d : Byte) (rest : List Op) : State :=
  ({ s.startOp rest with irqPend := clearOnes s.irqPend (writeIrq v) } : State).rxByte d

/-- The state in which the encoder's cycle starts, after the acknowledge, the byte and the pulse. -/
def State.beforeClk (s : State) (v : Word) (d : Byte) (tick : Bool) : State :=
  ((s.ackRx v d (tickOps tick ++ [clkOp])).pulse tick [clkOp]).startOp []

section
variable {s : State} (v : Word) (d : Byte)

theorem State.ackRx_pending (rest : List Op) : (s.ackRx v d rest).pending = rest :=
  (State.rxByte_sameModelFields _ d).2.1

theorem State.ackRx_encoder (rest : List Op) : (s.ackRx v d rest).encoder = s.encoder := State.rxByte_encoder _ d

theorem State.ackRx_tick (rest : List Op) : (s.ackRx v d rest).tick = s.tick :=
  congrArg Arbitrator.tick (State.rxByte_arbitrator _ d)

/-- R106, R107: the last byte of a valid frame publishes, whatever was acknowledged before it. -/
theorem State.ackRx_publishes (rest : List Op) (hs : s.dstate = .collecting) (hn : s.dcnt = 31)
    (hc : checksumOk (s.dbuf.set 31 d) = true) :
    (s.ackRx v d rest).irqPend.getLsbD 0 = true ∧ (s.ackRx v d rest).fresh = true := by
  have e : s.ackRx v d rest = _ := State.rxByte_publish hs hn hc
  rw [e]
  refine ⟨?_, rfl⟩
  simp [irqRec]

variable (tick : Bool)

theorem State.beforeClk_encoder : (s.beforeClk v d tick).encoder = s.encoder :=
  (State.pulse_encoder tick).trans (s.ackRx_encoder v d _)

theorem State.beforeClk_tick : (s.beforeClk v d tick).tick.toNat = (s.tick.toNat + tick.toNat) % 2 ^ 32 :=
  (State.pulse_tick tick).trans (by rw [State.ackRx_tick])

theorem State.beforeClk_published (hs : s.dstate = .collecting) (hn : s.dcnt = 31)
    (hc : checksumOk (s.dbuf.set 31 d) = true) :
    (s.beforeClk v d tick).irqPend.getLsbD 0 = true ∧ (s.beforeClk v d tick).fresh = true := by
  obtain ⟨hrec, hfresh⟩ := State.ackRx_publishes v d (tickOps tick ++ [clkOp]) hs hn hc
  exact ⟨(congrArg (·.getLsbD 0) (State.pulse_irqPend tick)).trans hrec, (State.pulse_fresh tick).trans hfresh⟩

/-- The ports in a cycle that acknowledges v and receives d, with a TICK pulse or without. -/
abbrev ackPorts : PortInputs where
  rstN := true
  bus := some { write := true, addr := 0x088#12, wdata := v }
  rx := some d
  tick := tick

/-- R255: the operations of the cycle run in order: the acknowledge, the byte, the pulse, the encoder's cycle. -/
theorem core_run_ackPorts (hp : s.pending = []) :
    Sys2Proof.core.run (ackPorts v d tick).ops.length (s.presentCycle (ackPorts v d tick)) =
      .next (s.beforeClk v d tick).clkOnce := by
  have hpresented : (s.presentCycle (ackPorts v d tick)).pending =
      BusAccess.op { write := true, addr := 0x088#12, wdata := v } :: rxOp d :: (tickOps tick ++ [clkOp]) :=
    congrArg (· ++ (ackPorts v d tick).ops) hp
  have hpulse := s.ackRx_pending v d (tickOps tick ++ [clkOp])
  refine (core_run_presented hpresented (congrArg (exec · _) (decode_acknowledge v))).trans ?_
  refine (core_run_presented rfl (congrArg (exec · _) (decode_rxOp d))).trans ?_
  exact (core_run_pulse tick hpulse).trans (core_run_presented (State.pulse_pending tick hpulse) rfl)

end

/-! ### The encoder's cycle -/

section
variable {s t : State}

/-- R202: a CLK clears no pending bit. -/
theorem State.clkOnce_keeps_pending_bit {b : Nat} (h : s.irqPend.getLsbD b = true) :
    s.clkOnce.irqPend.getLsbD b = true := by
  rcases s.clkOnce_irqPend with e | e <;> rw [e]
  · exact h
  · exact getLsbD_or_of_pending h

theorem State.clkOnce_fresh : s.clkOnce.fresh = s.fresh := congrArg Receiver.fresh s.clkOnce_receiver_rss.1

theorem State.clkOnce_tick : s.clkOnce.tick = s.tick := congrArg Arbitrator.tick s.clkOnce_arbitrator

/-- R202: the last cycle of a burst, in a state t that has the encoder of s. -/
theorem State.clkOnce_ends_of_encoder_eq (he : t.encoder = s.encoder) (hb : s.lbusy = true)
    (hend : (s.lt + 1).toNat = burstTotal s.cfg.nPix s.ltbit s.ltrst) :
    t.clkOnce.irqPend.getLsbD 1 = true ∧ t.clkOnce.lbusy = false := by
  obtain ⟨hpix, hbusy, hlt, -, -, -, hbit, hrst, -⟩ := encoder_eq_iff.1 he
  rw [State.clkOnce_ends (hbusy.trans hb) (by rw [hpix, hlt, hbit, hrst, hend])]
  refine ⟨?_, rfl⟩
  simp [irqLdone]

end

/-- Settles O59: the byte and the encoder's cycle come after the acknowledge, and no later operation of the cycle
undoes what they do. -/
theorem eventsOfCycleSurviveItsAcknowledge : Obligations.EventsOfCycleSurviveItsAcknowledge := by
  unfold Obligations.EventsOfCycleSurviveItsAcknowledge
  intro s v d tick hp p
  refine ⟨(s.beforeClk v d tick).clkOnce, core_run_ackPorts v d tick hp, ?_, fun hs hn hsum => ?_,
    fun hb hend => ?_, ?_⟩
  · exact (State.clkOnce_sameModelFields _).2.1
  · obtain ⟨hrec, hfresh⟩ := State.beforeClk_published v d tick hs hn ((checksumOk_set_iff s.dbuf d).2 hsum)
    exact ⟨State.clkOnce_keeps_pending_bit hrec, State.clkOnce_fresh.trans hfresh⟩
  · have hlast : (s.lt + 1).toNat = burstTotal s.cfg.nPix s.ltbit s.ltrst := (BitVec.toNat_add s.lt 1).trans hend
    exact State.clkOnce_ends_of_encoder_eq (State.beforeClk_encoder v d tick) hb hlast
  · rw [State.clkOnce_tick]
    exact State.beforeClk_tick v d tick

end Sys2Proof.Machine
end

section
/-! SUPPORT. A clock cycle in reset (R271, R231; log entry 12): RESET runs alone, and a read of ID that the bus port
presents in the same cycle runs after it. -/

namespace Sys2Proof.Machine

section
variable {s : State} {p : PortInputs}

/-- R271: RESET is presented first in a reset cycle, and leaves the reset state with the rest of the cycle's
operations to come. -/
theorem core_run_reset_first (hp : s.pending = []) (hrst : p.rstN = false) {rest : List Op}
    (hops : p.resetOps = resetOp :: rest) :
    Sys2Proof.core.run p.ops.length (s.presentCycle p) =
      Sys2Proof.core.run rest.length { s.resetBlock with pending := rest } := by
  have hpresented : (s.presentCycle p).pending = p.ops := congrArg (· ++ p.ops) hp
  have hcycle : p.ops = resetOp :: rest := (PortInputs.ops_in_reset hrst).trans hops
  rw [hcycle]
  exact core_run_presented (hpresented.trans hcycle) rfl

/-- R274, log entry 21: RESET adds nothing to what is presented. -/
theorem State.resetBlock_of_nothing_pending (hp : s.pending = []) :
    { s.resetBlock with pending := [] } = s.resetBlock := by
  rw [← hp]
  rfl

/-- R271: a cycle without a read of ID is RESET alone. -/
theorem core_run_reset_else (hp : s.pending = []) (hrst : p.rstN = false)
    (hbus : ∀ v, p.bus ≠ some { write := false, addr := 0x000#12, wdata := v }) :
    Sys2Proof.core.run p.ops.length (s.presentCycle p) = .next s.resetBlock :=
  (core_run_reset_first hp hrst (PortInputs.resetOps_else hbus)).trans
    (congrArg Host.Outcome.next (State.resetBlock_of_nothing_pending hp))

/-- R231, log entry 12: a read of ID in the cycle runs on the reset state. -/
theorem core_run_reset_reading_id (hp : s.pending = []) (hrst : p.rstN = false) {v : Word}
    (hbus : p.bus = some { write := false, addr := 0x000#12, wdata := v }) :
    Sys2Proof.core.run p.ops.length (s.presentCycle p) = .next (s.resetBlock.returns idWord) := by
  have hid : decode { desc := 0x0000#16, wdata := v } = .rdId := (decode_read_desc v 0 (by decide)).trans rfl
  rw [core_run_reset_first hp hrst (PortInputs.resetOps_reading_id hbus), ← State.resetBlock_of_nothing_pending hp]
  exact core_run_presented rfl (congrArg (exec · _) hid)

end

/-- Settles O60: the cycle reads ID or it does not, and the output ports do not involve the returned data. -/
theorem resetCycleIgnoresOtherPorts : Obligations.ResetCycleIgnoresOtherPorts := by
  unfold Obligations.ResetCycleIgnoresOtherPorts
  intro s p hp hrst
  obtain ⟨hled, hbuzz, hirq⟩ := s.resetBlock_ports
  by_cases hbus : ∃ v, p.bus = some { write := false, addr := 0x000#12, wdata := v }
  · obtain ⟨v, hv⟩ := hbus
    exact ⟨s.resetBlock, s.resetBlock.returns idWord, rfl, core_run_reset_reading_id hp hrst hv, rfl, hled, hirq,
      hbuzz, fun _ => rfl, fun hne => absurd hv (hne v)⟩
  · have hne := not_exists.1 hbus
    exact ⟨s.resetBlock, s.resetBlock, rfl, core_run_reset_else hp hrst hne, rfl, hled, hirq, hbuzz,
      fun hread => absurd hread hbus, fun _ => rfl⟩

end Sys2Proof.Machine
end
